-- ==== Sys2Proof/Word.lean ====
section
/-! DEFINITION. The bus byte, byte sequences of a fixed length, and the 512-byte sector (00_scope.md R9, R11). -/

namespace Sys2Proof

/-- One byte on the bus: 8 bits (R11). -/
abbrev Byte := BitVec 8

/-- A register of `n` bytes, first on the bus first. -/
structure Bytes (n : Nat) where
  list : List Byte
  /-- There are exactly `n` of them. -/
  size : list.length = n
  deriving DecidableEq, Repr

/-- The 512 bytes of one sector or of one write payload (`SECTOR_SIZE` and `PAYLOAD_SIZE`, R9). -/
structure Sector where
  /-- The bytes in bus order (20_memory.md R64). -/
  bytes : List Byte
  /-- There are exactly 512 of them. -/
  size : bytes.length = 512
  deriving DecidableEq, Repr

/-- 512 bytes of one value. -/
def Sector.fill (b : Byte) : Sector := ⟨List.replicate 512 b, List.length_replicate⟩

end Sys2Proof
end

