-- ==== Sys2Proof/Config.lean ====
section
/-! DEFINITION. What is fixed for one card: the sizes and limits of 00_scope.md R9 and the parameters of R10.
The parameters with a default in 92_eei_decisions.md are a record that the decoder takes as an argument and the state
holds (log entry 37). Those the spec leaves OPEN are constants without a body (log entries 12 and 13). -/

namespace Sys2Proof.Config

/-! ## Fixed sizes, limits and bytes (R9) -/

/-- `SECTOR_SIZE` in bytes; the one sector size bind accepts (R252). -/
def sectorSize : Nat := 512

/-- `SECTOR_MULTIPLE`: the sector count of a medium is a multiple of it (R252). -/
def sectorMultiple : Nat := 1024

/-- `CAPACITY_LIMIT`: bind is rejected at a capacity field at or above it (R254). -/
def capacityLimit : Nat := 65375

/-- `MAX_RESPONSE`: the longest response (R31). -/
def maxResponse : Nat := 516

/-- `IDLE_LINE`: what read() returns when nothing is pending (R142). -/
def idleLine : Byte := 0xFF

/-- `DATA_TOKEN`: starts a data block in both directions (R103, R114). -/
def dataToken : Byte := 0xFE

/-- `READ_ERROR_TOKEN`: follows the status byte after a store read failure (R115). -/
def readErrorToken : Byte := 0x01

/-- `DATA_ACCEPTED`: the first byte of the write-completion response (R118). -/
def dataAccepted : Byte := 0x05

/-- `WRITE_DONE`: the second byte of the write-completion response (R118). -/
def writeDone : Byte := 0x01

/-- `IF_COND_PATTERN`: the fixed bytes of the R7 echo (R112). -/
def ifCondPattern : List Byte := [0x00, 0x00, 0x01]

/-- What a byte of the medium that the model's list does not name reads as.
DESIGN CHOICE, unsafe (log entry 15); every content can be listed, so it restricts no medium. -/
def unlistedByte : Byte := 0x00

/-- `IN_IDLE`, bit 0 of the status (R24). -/
def inIdle : Byte := 0x01

/-! ## The two OPEN parameters: constants without a body -/

/-- Byte `k` of `cid_register`, which the spec leaves OPEN: a free constant (R125, R126, log entry 12). -/
opaque cidByte : Nat → Byte

/-- The first byte of `write_fail_response`, which the spec leaves OPEN (R232, log entry 13). -/
opaque writeFailFirst : Byte

/-- What follows it; only the first 515 bytes count, since D13 bounds the response to 516 bytes (log entry 13). -/
opaque writeFailRest : List Byte

end Sys2Proof.Config

namespace Sys2Proof

/-! ## The parameters of R10 -/

/-- Parameter `cmd_index`: the 6-bit index of each named command (R10, R96, R97). -/
structure CommandIndices where
  cmd0 : BitVec 6
  cmd8 : BitVec 6
  cmd9 : BitVec 6
  cmd10 : BitVec 6
  cmd17 : BitVec 6
  cmd24 : BitVec 6
  cmd55 : BitVec 6
  cmd58 : BitVec 6
  acmd13 : BitVec 6
  acmd22 : BitVec 6
  acmd23 : BitVec 6
  acmd41 : BitVec 6
  acmd42 : BitVec 6
  acmd51 : BitVec 6
  deriving DecidableEq, Repr

/-- The recognised standard indices (R96). -/
def CommandIndices.standard (x : CommandIndices) : List (BitVec 6) :=
  [x.cmd0, x.cmd8, x.cmd9, x.cmd10, x.cmd17, x.cmd24, x.cmd55, x.cmd58]

/-- `ACMD_SET`: the recognised application indices (R97, R170). -/
def CommandIndices.app (x : CommandIndices) : List (BitVec 6) :=
  [x.acmd13, x.acmd22, x.acmd23, x.acmd41, x.acmd42, x.acmd51]

/-- The parameters the model takes as arguments (R10), but for the OPEN ones (log entry 37). -/
structure Params where
  /-- `cmd_index` (D2). -/
  cmdIndex : CommandIndices
  /-- `R1_ILLEGAL`, the mask of ILLEGAL_COMMAND (D3). -/
  r1Illegal : Byte
  /-- `R1_PARAM`, the mask of PARAMETER_ERROR (D3). -/
  r1Param : Byte
  /-- The bit of the argument that `HCS_MASK` selects (D4). -/
  hcsBit : Fin 32
  /-- `ocr_bytes`, most significant first (D5, R120). -/
  ocrBytes : Bytes 4
  /-- `csd_template`; its C_SIZE bits count for nothing (D6, R123). -/
  csdTemplate : Bytes 16
  deriving DecidableEq, Repr

/-- The default of every parameter (R10, 92_eei_decisions.md). DESIGN CHOICE, the spec's own D2 to D6 (log entries 7
to 11). -/
def Params.default : Params where
  cmdIndex := {
    cmd0 := 0, cmd8 := 8, cmd9 := 9, cmd10 := 10, cmd17 := 17, cmd24 := 24, cmd55 := 55, cmd58 := 58
    acmd13 := 13, acmd22 := 22, acmd23 := 23, acmd41 := 41, acmd42 := 42, acmd51 := 51 }
  r1Illegal := 0x04
  r1Param := 0x40
  hcsBit := 30
  ocrBytes := ⟨[0xC0, 0x00, 0x00, 0x00], rfl⟩
  csdTemplate :=
    ⟨[0x40, 0x0E, 0x00, 0x32, 0x5B, 0x59, 0x00, 0x00, 0x00, 0x00, 0x7F, 0x80, 0x0A, 0x40, 0x00, 0x01], rfl⟩

/-- The single status bits an error mask can be: not IN_IDLE's bit 0 (R24), and not bit 7, which is 0 in every R1
byte (R110). -/
def errorMasks : List Byte := [0x02, 0x04, 0x08, 0x10, 0x20, 0x40]

/-- Which parameters describe a card (DEDUCED, log entry 38): no index names two commands, and the error masks are two
different single bits. -/
abbrev Params.Legal (P : Params) : Prop :=
  (P.cmdIndex.standard ++ P.cmdIndex.app).Nodup ∧
    P.r1Illegal ∈ errorMasks ∧ P.r1Param ∈ errorMasks ∧ P.r1Illegal ≠ P.r1Param

end Sys2Proof
end

