-- ==== Sys2Proof/Syntax.lean ====
section
/-! DEFINITION. The commands: one constructor of `Instr` for each row of spec/opcode_table.json.
The CRC bytes of a frame are no operands: no bit of them reaches any state (30_encoding.md R94, log entry 25). -/

namespace Sys2Proof

/-- The four argument bytes of a frame, `arg[0]` first on the bus (10_state.md R29, 30_encoding.md R90). -/
structure Argument where
  a0 : Byte
  a1 : Byte
  a2 : Byte
  a3 : Byte
  deriving DecidableEq, Repr

/-- What the card engine decodes from the byte stream (30_encoding.md R90–R104). -/
inductive Instr where
  /-- CMD0 GO_IDLE_STATE (R180). -/
  | cmd0GoIdleState (arg : Argument)
  /-- CMD8 SEND_IF_COND (R182). -/
  | cmd8SendIfCond (arg : Argument)
  /-- CMD9 SEND_CSD (R183). -/
  | cmd9SendCsd (arg : Argument)
  /-- CMD10 SEND_CID (R184). -/
  | cmd10SendCid (arg : Argument)
  /-- CMD17 READ_SINGLE_BLOCK (R220). -/
  | cmd17ReadSingleBlock (arg : Argument)
  /-- CMD24 WRITE_BLOCK, the command phase (R225). -/
  | cmd24WriteBlock (arg : Argument)
  /-- CMD55 APP_CMD, the prefix (R186). -/
  | cmd55AppCmd (arg : Argument)
  /-- CMD58 READ_OCR (R185). -/
  | cmd58ReadOcr (arg : Argument)
  /-- ACMD13 SD_STATUS (R201). -/
  | acmd13SdStatus (arg : Argument)
  /-- ACMD22 SEND_NUM_WR_BLOCKS (R202). -/
  | acmd22SendNumWrBlocks (arg : Argument)
  /-- ACMD23 SET_WR_BLK_ERASE_COUNT (R203). -/
  | acmd23SetWrBlkEraseCount (arg : Argument)
  /-- ACMD42 SET_CLR_CARD_DETECT (R204). -/
  | acmd42SetClrCardDetect (arg : Argument)
  /-- ACMD51 SEND_SCR (R205). -/
  | acmd51SendScr (arg : Argument)
  /-- ACMD41 SD_SEND_OP_COND (R206). -/
  | acmd41SdSendOpCond (arg : Argument)
  /-- A frame whose index the standard tier does not recognise (R187). -/
  | illegal (index : BitVec 6) (arg : Argument)
  /-- A byte that is no command byte, in `AwaitingCommand` (R152). -/
  | invalidByte (b : Byte)
  /-- The write data frame after CMD24: token, payload, two CRC bytes (R103, R226–R232). -/
  | dataFrame (payload : Sector)
  deriving DecidableEq, Repr

end Sys2Proof
end

