-- ==== Sys2Proof/WellFormed.lean ====
section
/-! DEFINITION. Which terms of `Instr` an encoding stands for, under given parameters (30_encoding.md R92, R96). -/

namespace Sys2Proof

/-- An ILLEGAL frame carries an index that is none of the recognised standard indices (R187), and an invalid
byte has high bits other than `01` (R92); every other constructor takes every operand value (R99). -/
def Instr.WellFormed (P : Params) : Instr → Bool
  | .illegal index _ => !(P.cmdIndex.standard.contains index)
  | .invalidByte b => (b &&& 0xC0) != 0x40
  | .cmd0GoIdleState _ => true
  | .cmd8SendIfCond _ => true
  | .cmd9SendCsd _ => true
  | .cmd10SendCid _ => true
  | .cmd17ReadSingleBlock _ => true
  | .cmd24WriteBlock _ => true
  | .cmd55AppCmd _ => true
  | .cmd58ReadOcr _ => true
  | .acmd13SdStatus _ => true
  | .acmd22SendNumWrBlocks _ => true
  | .acmd23SetWrBlkEraseCount _ => true
  | .acmd42SetClrCardDetect _ => true
  | .acmd51SendScr _ => true
  | .acmd41SdSendOpCond _ => true
  | .dataFrame _ => true

end Sys2Proof
end

