-- ==== Sys2Proof/Decode.lean ====
section
/-! DEFINITION. The decoder of 30_encoding.md R90–R104 and the encoder written from the same tables, for any
parameters (R98: "The indices are those of parameter `cmd_index`"). -/

namespace Sys2Proof

/-- What the bytes are read as: a command frame, with `cmd55_seen` just before dispatch (R98), or the data frame
that follows CMD24 (R103). -/
inductive DecodeMode where
  | command (prefixed : Bool)
  | data
  deriving DecidableEq, Repr

/-- Why bytes are no whole instruction yet. On the card each means waiting for more bytes (41_parser.md R159). -/
inductive DecodeError where
  /-- Nothing to read. -/
  | noBytes
  /-- A command byte with fewer than five bytes after it. -/
  | truncatedCommand
  /-- Data mode, and no byte is the token 0xFE. -/
  | noDataToken
  /-- Data mode, and fewer than 514 bytes after the token. -/
  | truncatedData
  deriving DecidableEq, Repr

/-- A valid command byte: start bit 0, transmitter bit 1 (R92). -/
def isCommandByte (b : Byte) : Bool := (b &&& 0xC0) == 0x40

/-- Bits 5:0 of a command byte (R91). -/
def commandIndex (b : Byte) : BitVec 6 := b.extractLsb' 0 6

/-- The command byte of an index: start bit 0, transmitter bit 1, the index (R91). -/
def commandByte (n : BitVec 6) : Byte := (0b01 : BitVec 2) ++ n

/-- The application tier: the handler of an ACMD index, none for any other index (R97, R172). -/
def decodeApp (P : Params) (n : BitVec 6) (arg : Argument) : Option Instr :=
  if n = P.cmdIndex.acmd13 then some (.acmd13SdStatus arg)
  else if n = P.cmdIndex.acmd22 then some (.acmd22SendNumWrBlocks arg)
  else if n = P.cmdIndex.acmd23 then some (.acmd23SetWrBlkEraseCount arg)
  else if n = P.cmdIndex.acmd42 then some (.acmd42SetClrCardDetect arg)
  else if n = P.cmdIndex.acmd51 then some (.acmd51SendScr arg)
  else if n = P.cmdIndex.acmd41 then some (.acmd41SdSendOpCond arg)
  else none

/-- The standard tier; every other index is ILLEGAL (R96, R174). -/
def decodeStandard (P : Params) (n : BitVec 6) (arg : Argument) : Instr :=
  if n = P.cmdIndex.cmd0 then .cmd0GoIdleState arg
  else if n = P.cmdIndex.cmd8 then .cmd8SendIfCond arg
  else if n = P.cmdIndex.cmd9 then .cmd9SendCsd arg
  else if n = P.cmdIndex.cmd10 then .cmd10SendCid arg
  else if n = P.cmdIndex.cmd17 then .cmd17ReadSingleBlock arg
  else if n = P.cmdIndex.cmd24 then .cmd24WriteBlock arg
  else if n = P.cmdIndex.cmd55 then .cmd55AppCmd arg
  else if n = P.cmdIndex.cmd58 then .cmd58ReadOcr arg
  else .illegal n arg

/-- `decode(p, n)` of R98, total on the 128 pairs: the application tier when prefixed, and otherwise, or when it
does not know the index (the fallthrough of R173), the standard tier. -/
def decodeFrame (P : Params) (prefixed : Bool) (n : BitVec 6) (arg : Argument) : Instr :=
  match (if prefixed then decodeApp P n arg else none) with
  | some i => i
  | none => decodeStandard P n arg

/-- One instruction of a command stream: a whole frame of six bytes, or one discarded byte (R90, R99). -/
def decodeCommand (P : Params) (prefixed : Bool) : List Byte → Except DecodeError (Instr × List Byte)
  | [] => .error .noBytes
  | b :: rest =>
    if isCommandByte b then
      match rest with
      | a0 :: a1 :: a2 :: a3 :: _crc :: rest' => .ok (decodeFrame P prefixed (commandIndex b) ⟨a0, a1, a2, a3⟩, rest')
      | _ => .error .truncatedCommand
    else .ok (.invalidByte b, rest)

/-- The first 512 bytes as a payload, and the rest. -/
def takeSector (bs : List Byte) : Option (Sector × List Byte) :=
  if h : (bs.take 512).length = 512 then some (⟨bs.take 512, h⟩, bs.drop 512) else none

/-- The data frame of R103: bytes before the token are discarded, then token, payload and two CRC bytes. -/
def decodeData : List Byte → Except DecodeError (Instr × List Byte)
  | [] => .error .noDataToken
  | b :: rest =>
    if b = Config.dataToken then
      match takeSector rest with
      | some (payload, _crc1 :: _crc2 :: rest') => .ok (.dataFrame payload, rest')
      | _ => .error .truncatedData
    else decodeData rest

/-- The decoder: an instruction and the bytes after it, or a named reason why there is none yet. -/
def decode (P : Params) : DecodeMode → List Byte → Except DecodeError (Instr × List Byte)
  | .command prefixed, bs => decodeCommand P prefixed bs
  | .data, bs => decodeData bs

/-! ## The encoder -/

/-- A command frame (R90). -/
def encodeFrame (n : BitVec 6) (arg : Argument) (crc : Byte) : List Byte :=
  [commandByte n, arg.a0, arg.a1, arg.a2, arg.a3, crc]

/-- The bytes of an instruction. `crc1` is the CRC byte of a command frame; the data frame ends in `crc1`, `crc2`.
Every value of the two is an encoding of the instruction (R94). -/
def encode (P : Params) (i : Instr) (crc1 crc2 : Byte) : List Byte :=
  match i with
  | .cmd0GoIdleState arg => encodeFrame P.cmdIndex.cmd0 arg crc1
  | .cmd8SendIfCond arg => encodeFrame P.cmdIndex.cmd8 arg crc1
  | .cmd9SendCsd arg => encodeFrame P.cmdIndex.cmd9 arg crc1
  | .cmd10SendCid arg => encodeFrame P.cmdIndex.cmd10 arg crc1
  | .cmd17ReadSingleBlock arg => encodeFrame P.cmdIndex.cmd17 arg crc1
  | .cmd24WriteBlock arg => encodeFrame P.cmdIndex.cmd24 arg crc1
  | .cmd55AppCmd arg => encodeFrame P.cmdIndex.cmd55 arg crc1
  | .cmd58ReadOcr arg => encodeFrame P.cmdIndex.cmd58 arg crc1
  | .acmd13SdStatus arg => encodeFrame P.cmdIndex.acmd13 arg crc1
  | .acmd22SendNumWrBlocks arg => encodeFrame P.cmdIndex.acmd22 arg crc1
  | .acmd23SetWrBlkEraseCount arg => encodeFrame P.cmdIndex.acmd23 arg crc1
  | .acmd42SetClrCardDetect arg => encodeFrame P.cmdIndex.acmd42 arg crc1
  | .acmd51SendScr arg => encodeFrame P.cmdIndex.acmd51 arg crc1
  | .acmd41SdSendOpCond arg => encodeFrame P.cmdIndex.acmd41 arg crc1
  | .illegal index arg => encodeFrame index arg crc1
  | .invalidByte b => [b]
  | .dataFrame payload => 0xFE :: payload.bytes ++ [crc1, crc2]

/-- A mode in which the bytes of an instruction are that instruction: an application command needs the prefix, the
data frame its own phases, and the rest are read without the prefix (R97, R98, R103). -/
def modeOf : Instr → DecodeMode
  | .cmd0GoIdleState _ => .command false
  | .cmd8SendIfCond _ => .command false
  | .cmd9SendCsd _ => .command false
  | .cmd10SendCid _ => .command false
  | .cmd17ReadSingleBlock _ => .command false
  | .cmd24WriteBlock _ => .command false
  | .cmd55AppCmd _ => .command false
  | .cmd58ReadOcr _ => .command false
  | .acmd13SdStatus _ => .command true
  | .acmd22SendNumWrBlocks _ => .command true
  | .acmd23SetWrBlkEraseCount _ => .command true
  | .acmd42SetClrCardDetect _ => .command true
  | .acmd51SendScr _ => .command true
  | .acmd41SdSendOpCond _ => .command true
  | .illegal _ _ => .command false
  | .invalidByte _ => .command false
  | .dataFrame _ => .data

/-! ## Words of the opcode table -/

/-- The longest instruction in bytes: the data frame (R103). -/
def longestInstr : Nat := 515

/-- The lowest `n` bytes of a number, least significant first. -/
def lowBytes : Nat → Nat → List Byte
  | 0, _ => []
  | n + 1, w => BitVec.ofNat 8 w :: lowBytes n (w / 256)

/-- The bytes of a table word: byte `k` is bits `8k+7..8k`; every bit from `nbits` up is 0. -/
def tableBytes (nbits w : Nat) : List Byte := lowBytes longestInstr (w % 2 ^ nbits)

/-- How a table word is read (log entry 28): a first byte 0xFE as the data frame, an ACMD index after the prefix,
anything else without it. -/
def tableMode (P : Params) (first : Byte) : DecodeMode :=
  if first = Config.dataToken then .data
  else .command (isCommandByte first && P.cmdIndex.app.contains (commandIndex first))

/-- The instruction the decoder reads from a table word, its operand bytes above `nbits` zero. The table's indices are
the default ones (D2, log entry 7). -/
def decodeTableWord (nbits w : Nat) : Option Instr :=
  match decode Params.default (tableMode Params.default (BitVec.ofNat 8 (w % 2 ^ nbits))) (tableBytes nbits w) with
  | .ok (i, _) => some i
  | .error _ => none

end Sys2Proof
end

