-- ==== Sys2Proof/Machine/State.lean ====
section
/-! DEFINITION. The state of one card and of the store as the card sees it (10_state.md R20, 20_memory.md R66),
as plain data, and the state right after power-on (10_state.md R41, R42). -/

namespace Sys2Proof.Machine

/-- The ten phases of `command_state` (R22). -/
inductive Phase where
  | awaitingCommand
  | awaitingArg0
  | awaitingArg1
  | awaitingArg2
  | awaitingArg3
  | awaitingCrc
  | awaitingDataToken
  | awaitingData
  | awaitingDataCrc1
  | awaitingDataCrc2
  deriving DecidableEq, Repr

/-- The medium's bytes: byte address `512*i + k` is byte `k` of sector `i` (20_memory.md R62). Canonical form
(`Memory.wf`): addresses strictly rising, no entry equal to `Config.unlistedByte`. -/
abbrev Memory := List Host.Cell

/-- The store's write-back cache: a finite map from sector index to 512 bytes, keys strictly rising (R66). -/
abbrev Cache := List (Nat × Sector)

/-- What `StoreBind` reports of a medium (R70). -/
structure Geometry where
  cylinders : Nat
  heads : Nat
  sectorsPerTrack : Nat
  sectorSize : Nat
  deriving DecidableEq, Repr

/-- The store's answers for one step, the spec's draws (R73: "a free input of the step that makes the call"), and
the value a reset event leaves where the spec names none. Nothing constrains any of it (log entries 2 and 5). -/
structure Draw where
  /-- The store call of this step returns `error` (R67, R68, R69, R70). -/
  storeError : Bool
  /-- A failed write left the new data in the cache (R68). -/
  failedWriteLands : Bool
  /-- The sectors a failed flush wrote to the medium (R69). -/
  failedFlushReached : List Nat
  /-- Of those, the sectors that stay in the cache all the same (R69, log entry 17). -/
  failedFlushKept : List Nat
  /-- The geometry of a medium that bind opens (R70). -/
  geometry : Geometry
  /-- The content of a medium that bind opens (R66), in any order. -/
  image : List Host.Cell
  /-- What `write_payload` holds after a reset event ("unspec.", R41). -/
  unspecPayload : Sector
  deriving DecidableEq, Repr

/-- The calls the host can make (00_scope.md R16). -/
inductive HostCall where
  | write (b : Byte)
  | read
  | reset
  | bind (path : String)
  | unbind
  | commit
  | isDirty
  deriving DecidableEq, Repr

/-- One input of the machine: a host call and the store's draw for it (R16, R19, R73). -/
structure Input where
  call : HostCall
  draw : Draw
  deriving DecidableEq, Repr

/-- What a host call returns (R141, R142, R251, R258, R259). -/
inductive Reply where
  /-- write, reset and unbind return nothing. -/
  | nothing
  /-- read() returns a byte. -/
  | byte (b : Byte)
  /-- bind or commit succeeded. -/
  | ok
  /-- bind failed (R284). -/
  | bindError
  /-- commit's flush failed (R284). -/
  | flushError
  /-- is_dirty's answer. -/
  | dirty (d : Bool)
  deriving DecidableEq, Repr

/-- Why a step can stop with a fault: never. It has no constructor, because the card engine has no fault, trap or
exception (60_exceptions.md R285, log entry 31): nothing raises one, so there is no unsafe one either. -/
inductive Fault where
  deriving DecidableEq, Repr

/-- Why a step can be refused. -/
inductive Refusal where
  /-- An instruction that has no meaning in this model yet; only an arm of `exec` could raise it, and none does.
  Safe: the model would stop where the card goes on. -/
  | notModelled (mnemonic : String)
  deriving DecidableEq, Repr

/-- One card (R20), the store as the card sees it (R66), and the model's own `params`, `inputs`, `draw` and `reply`. -/
structure State where
  /-- The model's own: the parameters this card was built with (R10). No step changes them (log entry 37). -/
  params : Params
  /-- A medium is bound (R21). -/
  bound : Bool
  /-- `command_state` (R22). -/
  phase : Phase
  /-- `status` (R24). -/
  status : Byte
  /-- `current_command` (R28). -/
  currentCommand : BitVec 6
  /-- `argument` (R29). -/
  argument : Argument
  /-- `response_queue` from its read cursor on (R30, log entry 36). -/
  responseQueue : List Byte
  /-- `write_payload` (R32). -/
  writePayload : Sector
  /-- `payload_count` (R32). -/
  payloadCount : Nat
  /-- `cmd8_seen` (R33). -/
  cmd8Seen : Bool
  /-- `cmd55_seen` (R34). -/
  cmd55Seen : Bool
  /-- `capacity_field` (R35). -/
  capacityField : BitVec 16
  /-- `total_sectors` (R36). -/
  totalSectors : BitVec 32
  /-- The bound medium's bytes (R66). -/
  medium : Memory
  /-- The store's dirty sectors (R66). -/
  cache : Cache
  /-- The model's own: the host calls still to come (log entry 1). -/
  inputs : List Input
  /-- The model's own: the store's answers for the current step (log entry 2). -/
  draw : Draw
  /-- The model's own: what the last host call returned (log entry 3). -/
  reply : Reply
  deriving DecidableEq, Repr

/-- The draw that stands in `State.reset`. DESIGN CHOICE (log entry 2): a step loads its own draw first, so no step
reads this one. -/
def Draw.zero : Draw where
  storeError := false
  failedWriteLands := false
  failedFlushReached := []
  failedFlushKept := []
  geometry := ⟨0, 0, 0, 0⟩
  image := []
  unspecPayload := Sector.fill 0

/-- The machine right after construction (R41, R42): unbound, and reset. `current_command`, `argument` and
`write_payload` are "unspec." there: zero is a DESIGN CHOICE (log entry 4). The parameters are the defaults (log
entry 37). -/
def State.reset : State where
  params := Params.default
  bound := false
  phase := .awaitingCommand
  status := 0x00
  currentCommand := 0
  argument := ⟨0, 0, 0, 0⟩
  responseQueue := []
  writePayload := Sector.fill 0
  payloadCount := 0
  cmd8Seen := false
  cmd55Seen := false
  capacityField := 0
  totalSectors := 0
  medium := []
  cache := []
  inputs := []
  draw := Draw.zero
  reply := .nothing

end Sys2Proof.Machine
end

