-- ==== Sys2Proof/Machine/Flags.lean ====
section
/-! DEFINITION. Every computation on `status` (10_state.md R24–R27). -/

namespace Sys2Proof.Machine

/-- The transient clear at the start of every dispatch (R26, R171). -/
def State.clearTransient (s : State) : State :=
  { s with status := s.status &&& ~~~(s.params.r1Illegal ||| s.params.r1Param) }

/-- Set ILLEGAL_COMMAND (R187, R200). -/
def State.setIllegal (s : State) : State := { s with status := s.status ||| s.params.r1Illegal }

/-- Set PARAMETER_ERROR (R221, R230). -/
def State.setParameter (s : State) : State := { s with status := s.status ||| s.params.r1Param }

/-- Go-idle's status: IN_IDLE and nothing else (R180). -/
def State.setIdleOnly (s : State) : State := { s with status := Config.inIdle }

/-- Clear IN_IDLE (R206). -/
def State.leaveIdle (s : State) : State := { s with status := s.status &&& ~~~Config.inIdle }

end Sys2Proof.Machine
end

