-- ==== Sys2Proof/Machine/Operands.lean ====
section
/-! DEFINITION. How a command reads its argument (30_encoding.md R93, R95). -/

namespace Sys2Proof.Machine

/-- `argval = be32(arg[0], arg[1], arg[2], arg[3])`, an unsigned 32-bit value (R63, R93). -/
def argval (a : Argument) : BitVec 32 :=
  a.a0.setWidth 32 <<< 24 ||| a.a1.setWidth 32 <<< 16 ||| a.a2.setWidth 32 <<< 8 ||| a.a3.setWidth 32

/-- The sector index of CMD17 and CMD24: the argument's value, unscaled (R62, R95). -/
def sectorIndex (a : Argument) : Nat := (argval a).toNat

/-- The unsigned range check `i < total_sectors` (R77, R221, R230). -/
def State.inRange (s : State) : Bool := decide (sectorIndex s.argument < s.totalSectors.toNat)

/-- CMD8's check pattern, the low argument byte (R112, R182). -/
def echoByte (a : Argument) : Byte := a.a3

/-- ACMD41's host-capacity-support bit, at the place parameter `HCS_MASK` gives it (R10, R95, R206). -/
def hostCapacitySupport (bit : Fin 32) (a : Argument) : Bool := (argval a).getLsbD bit

end Sys2Proof.Machine
end

