-- ==== Sys2Proof/Machine/Ops.lean ====
section
/-! DEFINITION. The named operations over the queue, the registers and the store, and the one frame that every
dispatch runs in (42_dispatch.md R170–R176).

There is no operation for taking an exception or returning from one: the card engine has no trap entry, no saved
state, no vector, no handler mode and no trap return (60_exceptions.md R285; log entry 31). -/

namespace Sys2Proof

/-! ## Bytes of a sector -/

/-- Byte `k` of a sector (R64); there is none from 512 up. -/
def Sector.byte (d : Sector) (k : Nat) : Byte := d.bytes.getD k 0

/-- Put byte `k` of a sector; from 512 up nothing is put (log entry 29). -/
def Sector.setByte (d : Sector) (k : Nat) (b : Byte) : Sector := ⟨d.bytes.set k b, by simp [d.size]⟩

end Sys2Proof

namespace Sys2Proof.Machine

/-! ## The medium's bytes -/

/-- The byte at an address: the listed one, else what an unlisted address reads as. -/
def Memory.read : Memory → Nat → Byte
  | [], _ => Config.unlistedByte
  | (k, v) :: m, a => if k = a then v else Memory.read m a

/-- Store one byte and keep the canonical form. -/
def Memory.write : Memory → Nat → Byte → Memory
  | [], a, b => if b = Config.unlistedByte then [] else [(a, b)]
  | (k, v) :: m, a, b =>
    if k < a then (k, v) :: Memory.write m a b
    else
      let rest := if k = a then m else (k, v) :: m
      if b = Config.unlistedByte then rest else (a, b) :: rest

/-- Store bytes from an address on. -/
def Memory.writeBytes : Memory → Nat → List Byte → Memory
  | m, _, [] => m
  | m, a, b :: bs => Memory.writeBytes (m.write a b) (a + 1) bs

/-- The 512 bytes of sector `i` (R62, R64). -/
def Memory.readSector (m : Memory) (i : Nat) : Sector :=
  ⟨(List.range 512).map fun k => m.read (512 * i + k), by simp⟩

/-- Store the 512 bytes of sector `i` (R62, R64). -/
def Memory.writeSector (m : Memory) (i : Nat) (d : Sector) : Memory := m.writeBytes (512 * i) d.bytes

/-- The canonical form: addresses strictly rising, nothing listed that an unlisted address reads as. -/
abbrev Memory.wf (m : Memory) : Prop :=
  m.Pairwise (fun c d => c.1 < d.1) ∧ ∀ c ∈ m, c.2 ≠ Config.unlistedByte

/-- A medium's content from cells in any order, of which those below `size` bytes count (R61; log entry 34). -/
def Memory.load (size : Nat) (image : List Host.Cell) : Memory :=
  (image.filter fun c => c.1 < size).foldl (fun m c => m.write c.1 c.2) []

/-! ## The write-back cache -/

/-- The dirty data of a sector, if it is dirty (R66: "'dirty' is membership in the map"). -/
def Cache.find : Cache → Nat → Option Sector
  | [], _ => none
  | (k, d) :: c, i => if k = i then some d else Cache.find c i

/-- `cache[i] <- data`, replacing any earlier entry (R68). -/
def Cache.put : Cache → Nat → Sector → Cache
  | [], i, d => [(i, d)]
  | (k, e) :: c, i, d =>
    if k < i then (k, e) :: Cache.put c i d
    else (i, d) :: (if k = i then c else (k, e) :: c)

/-- The cache's canonical form: sector indices strictly rising. -/
abbrev Cache.wf (c : Cache) : Prop := c.Pairwise (fun x y => x.1 < y.1)

/-- Write cache entries to a medium. -/
def Cache.flushInto (c : Cache) (m : Memory) : Memory := c.foldl (fun m e => m.writeSector e.1 e.2) m

/-! ## The Backing Store Adapter (R66–R73) -/

/-- The 512 bytes of sector `i`: as the cache holds them, else as the medium does (R67). -/
def State.sectorData (s : State) (i : Nat) : Sector :=
  match s.cache.find i with
  | some d => d
  | none => s.medium.readSector i

/-- The byte of the sector space at a byte address: byte `a mod 512` of sector `a / 512` (R62). -/
def State.byteAt (s : State) (a : Nat) : Byte :=
  match s.cache.find (a / 512) with
  | some d => d.byte (a % 512)
  | none => s.medium.read a

/-- `StoreRead(i)`: the sector's data or `error`; it never changes the store (R67). -/
def State.storeRead (s : State) (i : Nat) : Option Sector :=
  if s.draw.storeError then none else some (s.sectorData i)

/-- The cache after `StoreWrite(i, data)`: the new entry on `ok`; on `error` the draw says whether it landed (R68). -/
def State.storeWrite (s : State) (i : Nat) (data : Sector) : State :=
  if !s.draw.storeError || s.draw.failedWriteLands then { s with cache := s.cache.put i data } else s

/-- `StoreFlush()`: on `ok` every entry reaches the medium and the cache is empty. On `error` the draw says which
entries reached the medium, and which of those stay cached; the rest stay cached (R69, D19, log entry 17). -/
def State.storeFlush (s : State) : State :=
  if s.draw.storeError then
    { s with
      medium := Cache.flushInto (s.cache.filter fun e => s.draw.failedFlushReached.contains e.1) s.medium
      cache := s.cache.filter fun e =>
        !s.draw.failedFlushReached.contains e.1 || s.draw.failedFlushKept.contains e.1 }
  else { s with medium := Cache.flushInto s.cache s.medium, cache := [] }

/-- `StoreBind(path)`: `error`, or the geometry, with the new medium open and its cache empty (R70). The medium
that a path names is the adapter's, so the path chooses nothing here: the draw does. -/
def State.storeBind (s : State) (_path : String) : Option (Geometry × State) :=
  if s.draw.storeError then none
  else
    let g := s.draw.geometry
    some (g, { s with
      medium := Memory.load (512 * (g.cylinders * g.heads * g.sectorsPerTrack)) s.draw.image
      cache := [] })

/-- `StoreUnbind()`: unflushed entries are discarded and the medium is released (R71). -/
def State.storeUnbind (s : State) : State := { s with medium := [], cache := [] }

/-- `StoreIsDirty()` (R72). -/
def State.storeIsDirty (s : State) : Bool := !s.cache.isEmpty

/-! ## Registers and queue -/

/-- `respond(seq)`: the queue becomes exactly `seq`, and unread bytes are discarded (R30, D8). -/
def State.respond (s : State) (seq : List Byte) : State := { s with responseQueue := seq }

/-- Write `command_state`. -/
def State.toPhase (s : State) (p : Phase) : State := { s with phase := p }

/-- Write `cmd8_seen` (R33). -/
def State.setCmd8Seen (s : State) (v : Bool) : State := { s with cmd8Seen := v }

/-- Write `cmd55_seen` (R34). -/
def State.setCmd55Seen (s : State) (v : Bool) : State := { s with cmd55Seen := v }

/-- The frame's index and argument in their registers (R151, R153–R156). -/
def State.latchFrame (s : State) (n : BitVec 6) (arg : Argument) : State :=
  { s with currentCommand := n, argument := arg }

/-- The whole payload in its buffer, counted (R227). -/
def State.latchPayload (s : State) (p : Sector) : State := { s with writePayload := p, payloadCount := 512 }

/-- What a host call returns. -/
def State.answer (s : State) (r : Reply) : State := { s with reply := r }

/-- The effects of reset() (R250); `write_payload` holds an unspecified value after it (R41, log entry 5). -/
def State.resetBus (s : State) : State :=
  { s with
    phase := .awaitingCommand
    status := 0x00
    responseQueue := []
    cmd8Seen := false
    cmd55Seen := false
    payloadCount := 0
    writePayload := s.draw.unspecPayload }

/-! ## Dispatch -/

/-- A command frame complete at a bound card: index and argument stand in their registers, the transient bits are
cleared, the prefix is consumed, the handler runs, the next phase is written (R170–R176). A frame written to an
unbound card is lost (R140). -/
def State.dispatch (s : State) (n : BitVec 6) (arg : Argument) (next : Phase) (handler : State → State) : State :=
  if s.bound then
    (handler (((s.latchFrame n arg).clearTransient).setCmd55Seen false)).toPhase next
  else s

/-- The status-only response R1 (R110, R111). -/
def State.respondStatus (s : State) : State := s.respond [s.status]

/-- The handler of every unrecognised or unimplemented command: ILLEGAL_COMMAND and a status-only response
(R187, R200). -/
def State.rejectCommand (s : State) : State := s.setIllegal.respondStatus

/-- The range error: PARAMETER_ERROR and a status-only response; no data exchanged (R221, R230). -/
def State.rejectRange (s : State) : State := s.setParameter.respondStatus

end Sys2Proof.Machine
end

