-- ==== Sys2Proof/Machine/Application.lean ====
section
/-! DEFINITION. The application commands (44_app_commands.md R200–R206). -/

namespace Sys2Proof.Machine

/-- ACMD13 SD_STATUS, not implemented by the card: ILLEGAL_COMMAND (R200, R201). -/
def execAcmd13SdStatus (arg : Argument) (s : State) : Host.Outcome State Fault Refusal :=
  .next (s.dispatch s.params.cmdIndex.acmd13 arg .awaitingCommand State.rejectCommand)

/-- ACMD22 SEND_NUM_WR_BLOCKS, not implemented by the card: ILLEGAL_COMMAND (R200, R202). -/
def execAcmd22SendNumWrBlocks (arg : Argument) (s : State) : Host.Outcome State Fault Refusal :=
  .next (s.dispatch s.params.cmdIndex.acmd22 arg .awaitingCommand State.rejectCommand)

/-- ACMD23 SET_WR_BLK_ERASE_COUNT, not implemented by the card: ILLEGAL_COMMAND (R200, R203). -/
def execAcmd23SetWrBlkEraseCount (arg : Argument) (s : State) : Host.Outcome State Fault Refusal :=
  .next (s.dispatch s.params.cmdIndex.acmd23 arg .awaitingCommand State.rejectCommand)

/-- ACMD42 SET_CLR_CARD_DETECT, not implemented by the card: ILLEGAL_COMMAND (R200, R204). -/
def execAcmd42SetClrCardDetect (arg : Argument) (s : State) : Host.Outcome State Fault Refusal :=
  .next (s.dispatch s.params.cmdIndex.acmd42 arg .awaitingCommand State.rejectCommand)

/-- ACMD51 SEND_SCR, not implemented by the card: ILLEGAL_COMMAND (R200, R205). -/
def execAcmd51SendScr (arg : Argument) (s : State) : Host.Outcome State Fault Refusal :=
  .next (s.dispatch s.params.cmdIndex.acmd51 arg .awaitingCommand State.rejectCommand)

/-- ACMD41 SD_SEND_OP_COND: IN_IDLE is cleared when CMD8 was seen and the host-capacity-support bit is set (R206). -/
def execAcmd41SdSendOpCond (arg : Argument) (s : State) : Host.Outcome State Fault Refusal :=
  .next (s.dispatch s.params.cmdIndex.acmd41 arg .awaitingCommand fun t =>
    (if t.cmd8Seen && hostCapacitySupport t.params.hcsBit t.argument then t.leaveIdle else t).respondStatus)

end Sys2Proof.Machine
end

