-- ==== Sys2Proof/Machine/CardRegisters.lean ====
section
/-! DEFINITION. The card-register synthesizer: pure functions from the inputs of 30_encoding.md R129. -/

namespace Sys2Proof.Machine

/-- The R7 response of CMD8 (R112). -/
def r7Response (status echo : Byte) : List Byte := status :: Config.ifCondPattern ++ [echo]

/-- The response of CMD58 (R113). -/
def ocrResponse (status : Byte) (ocr : Bytes 4) : List Byte := status :: ocr.list

/-- The CSD: the template with C_SIZE from the capacity field (R123, R124). -/
def csdRegister (template : Bytes 16) (capacity : BitVec 16) : List Byte :=
  let c : BitVec 22 := capacity.setWidth 22
  let t := template.list
  let t := t.set 7 ((t.getD 7 0 &&& 0xC0) ||| ((c >>> 16).setWidth 8 &&& 0x3F))
  let t := t.set 8 ((c >>> 8).setWidth 8)
  t.set 9 (c.setWidth 8)

/-- The CID: sixteen fixed bytes that depend on no state (R125). -/
def cidRegister : List Byte := (List.range 16).map Config.cidByte

/-- A data block: status, token, content, two zero CRC bytes (R114, R116, R117). -/
def dataBlock (status : Byte) (content : List Byte) : List Byte :=
  [status, Config.dataToken] ++ content ++ [0x00, 0x00]

/-- The read error response (R115). -/
def readErrorResponse (status : Byte) : List Byte := [status, Config.readErrorToken]

/-- The write-completion response (R118). -/
def writeAcceptedResponse : List Byte := [Config.dataAccepted, Config.writeDone]

/-- `write_fail_response`: 1 to 516 bytes that the spec leaves OPEN (R232, D13, log entry 13). -/
def writeFailResponse : List Byte := Config.writeFailFirst :: Config.writeFailRest.take 515

end Sys2Proof.Machine
end

