-- ==== Sys2Proof/Machine/BlockTransfer.lean ====
section
/-! DEFINITION. CMD17, CMD24 and the framing controller of the write data phase (45_block_transfer.md R220–R233). -/

namespace Sys2Proof.Machine

/-- CMD17's handler: range check, then the store, then the block or the error token (R220–R223). -/
def State.readBlock (s : State) : State :=
  if s.inRange then
    match s.storeRead (sectorIndex s.argument) with
    | some d => s.respond (dataBlock s.status d.bytes)
    | none => s.respond (readErrorResponse s.status)
  else s.rejectRange

/-- CMD17 READ_SINGLE_BLOCK (R220). -/
def execCmd17ReadSingleBlock (arg : Argument) (s : State) : Host.Outcome State Fault Refusal :=
  .next (s.dispatch s.params.cmdIndex.cmd17 arg .awaitingCommand State.readBlock)

/-- CMD24 WRITE_BLOCK, command phase: acknowledged whatever the index, and the data phase begins (R225, R175). -/
def execCmd24WriteBlock (arg : Argument) (s : State) : Host.Outcome State Fault Refusal :=
  .next (s.dispatch s.params.cmdIndex.cmd24 arg .awaitingDataToken State.respondStatus)

/-- The write completion: range check, store write, response (R230–R232). It clears no status bit (R229). -/
def State.completeWrite (s : State) : State :=
  if s.inRange then
    (s.storeWrite (sectorIndex s.argument) s.writePayload).respond
      (if s.draw.storeError then writeFailResponse else writeAcceptedResponse)
  else s.rejectRange

/-- The DATA frame, complete at a bound card: its payload stands in the buffer, the phase returns to
`AwaitingCommand`, and the write completes at the sector of the CMD24 argument (R226–R232). -/
def execDataFrame (payload : Sector) (s : State) : Host.Outcome State Fault Refusal :=
  .next (if s.bound then ((s.latchPayload payload).toPhase .awaitingCommand).completeWrite else s)

/-! ## The bytes of a data frame that do not complete it -/

/-- `AwaitingDataToken`: 0xFE starts the payload, every other byte is discarded (R226). -/
def State.receiveToken (s : State) (b : Byte) : State :=
  if b = Config.dataToken then { s with payloadCount := 0, phase := .awaitingData } else s

/-- `AwaitingData`: one payload byte; the 512th moves on (R227, log entry 29). -/
def State.receivePayload (s : State) (b : Byte) : State :=
  { s with
    writePayload := s.writePayload.setByte s.payloadCount b
    payloadCount := s.payloadCount + 1
    phase := if s.payloadCount + 1 = 512 then .awaitingDataCrc1 else s.phase }

/-- `AwaitingDataCrc1`: the byte is ignored (R228). -/
def State.receiveDataCrc1 (s : State) (_b : Byte) : State := s.toPhase .awaitingDataCrc2

end Sys2Proof.Machine
end

