-- ==== Sys2Proof/Machine/Parser.lean ====
section
/-! DEFINITION. The command parser's rules for the bytes that complete nothing (41_parser.md R151, R153–R156), and
the meaning of a discarded byte (R152). -/

namespace Sys2Proof.Machine

/-- INVALID command byte: no field changes (R152). -/
def execInvalidByte (_b : Byte) (s : State) : Host.Outcome State Fault Refusal := .next s

/-- A valid command byte: its index is kept and the frame begins (R151). -/
def State.startFrame (s : State) (b : Byte) : State :=
  { s with currentCommand := commandIndex b, phase := .awaitingArg0 }

/-- Argument byte 0 (R153). -/
def State.captureArg0 (s : State) (b : Byte) : State :=
  { s with argument := { s.argument with a0 := b }, phase := .awaitingArg1 }

/-- Argument byte 1 (R154). -/
def State.captureArg1 (s : State) (b : Byte) : State :=
  { s with argument := { s.argument with a1 := b }, phase := .awaitingArg2 }

/-- Argument byte 2 (R155). -/
def State.captureArg2 (s : State) (b : Byte) : State :=
  { s with argument := { s.argument with a2 := b }, phase := .awaitingArg3 }

/-- Argument byte 3 (R156). -/
def State.captureArg3 (s : State) (b : Byte) : State :=
  { s with argument := { s.argument with a3 := b }, phase := .awaitingCrc }

end Sys2Proof.Machine
end

