-- ==== Sys2Proof/Machine/Standard.lean ====
section
/-! DEFINITION. The standard commands but the block transfers (43_standard_commands.md R180–R188). No handler reads
IN_IDLE (R188). -/

namespace Sys2Proof.Machine

/-- CMD0 GO_IDLE_STATE: status idle-only, `cmd8_seen` cleared, response `[0x01]` (R180, log entry 33). -/
def execCmd0GoIdleState (arg : Argument) (s : State) : Host.Outcome State Fault Refusal :=
  .next (s.dispatch s.params.cmdIndex.cmd0 arg .awaitingCommand fun t =>
    (t.setIdleOnly.setCmd8Seen false).respondStatus)

/-- CMD8 SEND_IF_COND: `cmd8_seen` set, the R7 echo (R182). -/
def execCmd8SendIfCond (arg : Argument) (s : State) : Host.Outcome State Fault Refusal :=
  .next (s.dispatch s.params.cmdIndex.cmd8 arg .awaitingCommand fun t =>
    (t.setCmd8Seen true).respond (r7Response t.status (echoByte t.argument)))

/-- CMD9 SEND_CSD (R183). -/
def execCmd9SendCsd (arg : Argument) (s : State) : Host.Outcome State Fault Refusal :=
  .next (s.dispatch s.params.cmdIndex.cmd9 arg .awaitingCommand fun t =>
    t.respond (dataBlock t.status (csdRegister t.params.csdTemplate t.capacityField)))

/-- CMD10 SEND_CID (R184). -/
def execCmd10SendCid (arg : Argument) (s : State) : Host.Outcome State Fault Refusal :=
  .next (s.dispatch s.params.cmdIndex.cmd10 arg .awaitingCommand fun t => t.respond (dataBlock t.status cidRegister))

/-- CMD58 READ_OCR: the same two bits set whether idle or ready (R185, R120). -/
def execCmd58ReadOcr (arg : Argument) (s : State) : Host.Outcome State Fault Refusal :=
  .next (s.dispatch s.params.cmdIndex.cmd58 arg .awaitingCommand fun t =>
    t.respond (ocrResponse t.status t.params.ocrBytes))

/-- CMD55 APP_CMD: the prefix for the next dispatch (R186). -/
def execCmd55AppCmd (arg : Argument) (s : State) : Host.Outcome State Fault Refusal :=
  .next (s.dispatch s.params.cmdIndex.cmd55 arg .awaitingCommand fun t => (t.setCmd55Seen true).respondStatus)

/-- An unrecognised index: ILLEGAL_COMMAND, status-only response (R187). -/
def execIllegal (index : BitVec 6) (arg : Argument) (s : State) : Host.Outcome State Fault Refusal :=
  .next (s.dispatch index arg .awaitingCommand State.rejectCommand)

end Sys2Proof.Machine
end

