-- ==== Sys2Proof/Machine/Dispatch.lean ====
section
/-! DEFINITION. The meaning of every instruction, one arm per constructor. -/

namespace Sys2Proof.Machine

/-- What a whole instruction does when it is complete at the card (42_dispatch.md R170, 30_encoding.md R98). -/
def exec (i : Instr) (s : State) : Host.Outcome State Fault Refusal :=
  match i with
  | .cmd0GoIdleState arg => Sys2Proof.Machine.execCmd0GoIdleState arg s
  | .cmd8SendIfCond arg => Sys2Proof.Machine.execCmd8SendIfCond arg s
  | .cmd9SendCsd arg => Sys2Proof.Machine.execCmd9SendCsd arg s
  | .cmd10SendCid arg => Sys2Proof.Machine.execCmd10SendCid arg s
  | .cmd17ReadSingleBlock arg => Sys2Proof.Machine.execCmd17ReadSingleBlock arg s
  | .cmd24WriteBlock arg => Sys2Proof.Machine.execCmd24WriteBlock arg s
  | .cmd55AppCmd arg => Sys2Proof.Machine.execCmd55AppCmd arg s
  | .cmd58ReadOcr arg => Sys2Proof.Machine.execCmd58ReadOcr arg s
  | .acmd13SdStatus arg => Sys2Proof.Machine.execAcmd13SdStatus arg s
  | .acmd22SendNumWrBlocks arg => Sys2Proof.Machine.execAcmd22SendNumWrBlocks arg s
  | .acmd23SetWrBlkEraseCount arg => Sys2Proof.Machine.execAcmd23SetWrBlkEraseCount arg s
  | .acmd42SetClrCardDetect arg => Sys2Proof.Machine.execAcmd42SetClrCardDetect arg s
  | .acmd51SendScr arg => Sys2Proof.Machine.execAcmd51SendScr arg s
  | .acmd41SdSendOpCond arg => Sys2Proof.Machine.execAcmd41SdSendOpCond arg s
  | .illegal index arg => Sys2Proof.Machine.execIllegal index arg s
  | .invalidByte b => Sys2Proof.Machine.execInvalidByte b s
  | .dataFrame payload => Sys2Proof.Machine.execDataFrame payload s

end Sys2Proof.Machine
end

