-- ==== Sys2Proof/Machine/Management.lean ====
section
/-! DEFINITION. The management operations (46_management.md R250–R261). -/

namespace Sys2Proof.Machine

/-- unbind() (R257): no store call when unbound (D18); the bus is reset either way. -/
def State.unbind (s : State) : State :=
  let t := if s.bound then s.storeUnbind else s
  ({ t with bound := false, totalSectors := 0, capacityField := 0 }).resetBus

/-- `T = cylinders * heads * sectors_per_track`, in unbounded arithmetic (R252). -/
def Geometry.total (g : Geometry) : Nat := g.cylinders * g.heads * g.sectorsPerTrack

/-- The geometry check (R252): sector size, multiple of 1024, not zero. -/
def Geometry.accepted (g : Geometry) : Bool :=
  g.sectorSize == Config.sectorSize && g.total % Config.sectorMultiple == 0 && g.total != 0

/-- `T / 1024 - 1` (R253). -/
def Geometry.capacity (g : Geometry) : Nat := g.total / Config.sectorMultiple - 1

/-- A rejected medium is released and the card stays unbound (R251, R256). -/
def State.rejectMedium (s : State) : State := s.storeUnbind.answer .bindError

/-- A bound medium's fields are stored and the bus is reset (R255). -/
def State.acceptMedium (s : State) (g : Geometry) : State :=
  (({ s with
    totalSectors := BitVec.ofNat 32 g.total
    capacityField := BitVec.ofNat 16 g.capacity
    bound := true }).resetBus).answer .ok

/-- bind(path) (R251–R256, R261): the bound medium is unbound first, then the new one is opened and checked. -/
def State.bindMedium (s : State) (path : String) : State :=
  let t := if s.bound then s.unbind else s
  match t.storeBind path with
  | none => t.answer .bindError
  | some (g, u) =>
    if g.accepted then
      if g.capacity ≥ Config.capacityLimit then u.rejectMedium else u.acceptMedium g
    else u.rejectMedium

/-- commit() (R258): the flush and its result; `ok` and no effect when unbound (D18). -/
def State.commit (s : State) : State :=
  if s.bound then s.storeFlush.answer (if s.draw.storeError then .flushError else .ok) else s.answer .ok

/-- is_dirty() (R259). -/
def State.isDirty (s : State) : State := s.answer (.dirty (s.bound && s.storeIsDirty))

end Sys2Proof.Machine
end

