-- ==== Sys2Proof/Machine/Transport.lean ====
section
/-! DEFINITION. The host's calls: the byte transport (40_transport.md R140–R145), the management calls, and how a
table word is placed before the card (log entry 27). -/

namespace Sys2Proof.Machine

/-- write(b) at a bound card: the one phase rule of the current phase (R141, R150). A byte that completes an
instruction runs it: a discarded byte (R152), the CRC byte of a frame (R157), the second CRC byte of a data frame
(R229). -/
def State.writeBound (s : State) (b : Byte) : Host.Outcome State Fault Refusal :=
  match s.phase with
  | .awaitingCommand => if isCommandByte b then .next (s.startFrame b) else exec (.invalidByte b) s
  | .awaitingArg0 => .next (s.captureArg0 b)
  | .awaitingArg1 => .next (s.captureArg1 b)
  | .awaitingArg2 => .next (s.captureArg2 b)
  | .awaitingArg3 => .next (s.captureArg3 b)
  | .awaitingCrc => exec (decodeFrame s.params s.cmd55Seen s.currentCommand s.argument) s
  | .awaitingDataToken => .next (s.receiveToken b)
  | .awaitingData => .next (s.receivePayload b)
  | .awaitingDataCrc1 => .next (s.receiveDataCrc1 b)
  | .awaitingDataCrc2 => exec (.dataFrame s.writePayload) s

/-- write(b): nothing when no medium is bound (R140), else the phase rule (R141). -/
def State.writeByte (s : State) (b : Byte) : Host.Outcome State Fault Refusal :=
  if s.bound then s.writeBound b else .next s

/-- read(): the front byte of the queue, or the idle-line byte (R142, R143). -/
def State.readByte (s : State) : State :=
  match s.responseQueue with
  | [] => s.answer (.byte Config.idleLine)
  | b :: rest => { s with responseQueue := rest, reply := .byte b }

/-- Take one input: it leaves the queue of calls, its draw is the step's draw, and nothing is returned yet. -/
def State.accept (s : State) (d : Draw) (rest : List Input) : State :=
  { s with inputs := rest, draw := d, reply := .nothing }

/-- One host call (00_scope.md R16). -/
def perform (c : HostCall) (s : State) : Host.Outcome State Fault Refusal :=
  match c with
  | .write b => s.writeByte b
  | .read => .next s.readByte
  | .reset => .next s.resetBus
  | .bind path => .next (s.bindMedium path)
  | .unbind => .next s.unbind
  | .commit => .next s.commit
  | .isDirty => .next s.isDirty

/-- One step: the next host call, or nothing when none is pending (R16, R17, log entry 1). -/
def stepInput (s : State) : Host.Outcome State Fault Refusal :=
  match s.inputs with
  | [] => .next s
  | inp :: rest => perform inp.call (s.accept inp.draw rest)

/-! ## Placing a table word (log entry 27) -/

/-- A card with a medium: itself when one is bound, else bound to the smallest medium, 1024 sectors (R312, R45).
DESIGN CHOICE, unsafe (log entry 39): the content of that medium, which the spec leaves OPEN (R10, R66), is what the
unbound card's list holds: nothing, so that every byte reads as `Config.unlistedByte`. -/
def State.withMedium (s : State) : State :=
  if s.bound then s else { s with bound := true, totalSectors := 1024, capacityField := 0 }

/-- The next host call is write(b), with an all-zero draw. -/
def State.withWrite (s : State) (b : Byte) : State := { s with inputs := ⟨.write b, Draw.zero⟩ :: s.inputs }

/-- `s` with all but the last byte of a table word's instruction taken by the card, and the last one about to be
written: a discarded byte in `AwaitingCommand`, a command frame's CRC byte in `AwaitingCrc` (after CMD55 when the
index is an application one), a data frame's second CRC byte in `AwaitingDataCrc2`. -/
def State.placeTableWord (s : State) (nbits w : Nat) : State :=
  let bs := tableBytes nbits w
  let b0 := bs.getD 0 0
  match tableMode s.params b0 with
  | .data =>
    match takeSector (bs.drop 1) with
    | some (payload, _ :: crc2 :: _) =>
      ({ s.withMedium with
        phase := .awaitingDataCrc2
        currentCommand := s.params.cmdIndex.cmd24
        writePayload := payload
        payloadCount := 512 }).withWrite crc2
    | _ => s
  | .command prefixed =>
    if isCommandByte b0 then
      ({ s.withMedium with
        phase := .awaitingCrc
        currentCommand := commandIndex b0
        argument := ⟨bs.getD 1 0, bs.getD 2 0, bs.getD 3 0, bs.getD 4 0⟩
        cmd55Seen := prefixed }).withWrite (bs.getD 5 0)
    else ({ s.withMedium with phase := .awaitingCommand }).withWrite b0

end Sys2Proof.Machine
end

