-- ==== Sys2Proof/Machine/Step.lean ====
section
/-! DEFINITION. One step of the machine, and the placing of a table word before it. -/

namespace Sys2Proof.Machine

/-- One step: one host call (00_scope.md R17). -/
def step (s : State) : Host.Outcome State Fault Refusal := stepInput s

/-- `s` with the instruction of a table word placed so that the very next step runs it (log entry 27). -/
def State.withFetchWord (s : State) (nbits w : Nat) : State := s.placeTableWord nbits w

end Sys2Proof.Machine
end

