-- ==== Sys2Proof/Safety.lean ====
section
/-! DEFINITION. What claims call a legal state of the card, and a step that stops. -/

namespace Sys2Proof.Machine

/-- Every bit but IN_IDLE and the two error bits is 0 (10_state.md R27: with the default masks, bits 1, 3, 4, 5 and 7),
and at most one error bit is set (60_exceptions.md R289). -/
def StatusLegal (s : State) : Prop :=
  s.status &&& ~~~(0x01 ||| s.params.r1Illegal ||| s.params.r1Param) = 0 ∧
    ¬(s.status &&& s.params.r1Illegal ≠ 0 ∧ s.status &&& s.params.r1Param ≠ 0)

/-- The queue's and the payload counter's bounds (10_state.md R31, R32). -/
def BuffersBounded (s : State) : Prop := s.responseQueue.length ≤ 516 ∧ s.payloadCount ≤ 512

/-- What holds of the capacity fields while bound (10_state.md R45). -/
def CapacityConsistent (s : State) : Prop :=
  s.bound = true →
    s.totalSectors.toNat % 1024 = 0 ∧ 1024 ≤ s.totalSectors.toNat ∧
      s.capacityField.toNat = s.totalSectors.toNat / 1024 - 1 ∧ s.capacityField.toNat < 65375

/-- An unbound card is as construction and unbind leave it (10_state.md R41). -/
def UnboundClean (s : State) : Prop :=
  s.bound = false →
    s.phase = .awaitingCommand ∧ s.status = 0x00 ∧ s.responseQueue = [] ∧ s.payloadCount = 0 ∧
      s.cmd8Seen = false ∧ s.cmd55Seen = false ∧ s.capacityField = 0 ∧ s.totalSectors = 0 ∧
      s.medium = [] ∧ s.cache = []

/-- The four phases of the write data phase (10_state.md R43). -/
def Phase.isData : Phase → Bool
  | .awaitingDataToken => true
  | .awaitingData => true
  | .awaitingDataCrc1 => true
  | .awaitingDataCrc2 => true
  | .awaitingCommand => false
  | .awaitingArg0 => false
  | .awaitingArg1 => false
  | .awaitingArg2 => false
  | .awaitingArg3 => false
  | .awaitingCrc => false

/-- The write data phase follows CMD24 (R43, R44), with no error bit set (45_block_transfer.md R229), and its counter
is where the phase says (R227). -/
def DataPhaseConsistent (s : State) : Prop :=
  (s.phase.isData = true → s.currentCommand = s.params.cmdIndex.cmd24 ∧
      s.status &&& (s.params.r1Illegal ||| s.params.r1Param) = 0) ∧
    (s.phase = .awaitingData → s.payloadCount < 512) ∧
    (s.phase = .awaitingDataCrc1 ∨ s.phase = .awaitingDataCrc2 → s.payloadCount = 512)

/-- The store is in canonical form and inside the sector space (20_memory.md R61, R66). -/
def StoreCanonical (s : State) : Prop :=
  s.medium.wf ∧ s.cache.wf ∧ (∀ c ∈ s.medium, c.1 < 512 * s.totalSectors.toNat) ∧
    ∀ e ∈ s.cache, e.1 < s.totalSectors.toNat

/-- A legal state: legal parameters, every invariant of 10_state.md section 9, and the model's own canonical forms. -/
structure CardInv (s : State) : Prop where
  params : s.params.Legal
  status : StatusLegal s
  buffers : BuffersBounded s
  capacity : CapacityConsistent s
  unbound : UnboundClean s
  dataPhase : DataPhaseConsistent s
  store : StoreCanonical s

/-- The step stops instead of answering a next state. No rule of the spec lets it (60_exceptions.md R285). -/
def Stops (s : State) : Prop := ∀ t, step s ≠ .next t

end Sys2Proof.Machine
end

