-- ==== Sys2Proof/Certificates/Slice0/Obligations.lean ====
section
/-! DEFINITION. The statements about the model, one `Obligations.<Name>` each. OBLIGATIONS.json lists them. -/

/-! ## Shorthands of the statements -/

/-- `s` once its next host call is taken: the call leaves the list, its draw is the step's, nothing is returned yet. -/
def Sys2Proof.Claims.taken (s : Sys2Proof.Machine.State) (d : Sys2Proof.Machine.Draw)
    (rest : List Sys2Proof.Machine.Input) : Sys2Proof.Machine.State :=
  { s with inputs := rest, draw := d, reply := .nothing }

/-- The status after the transient clear of R171: `status & 0xBB` with the default masks (D3, log entry 8). -/
def Sys2Proof.Claims.cleared (s : Sys2Proof.Machine.State) : Sys2Proof.Byte :=
  s.status &&& ~~~(s.params.r1Illegal ||| s.params.r1Param)

/-- What every dispatch does beside its handler: index and argument in their registers (log entry 25), transient bits
cleared (R171), prefix consumed (R172), back to `AwaitingCommand` (R175). -/
def Sys2Proof.Claims.dispatched (s : Sys2Proof.Machine.State) (n : BitVec 6) (arg : Sys2Proof.Argument) :
    Sys2Proof.Machine.State :=
  { s with
    currentCommand := n
    argument := arg
    status := Sys2Proof.Claims.cleared s
    cmd55Seen := false
    phase := .awaitingCommand }

/-- Under all legal parameters, with or without the prefix, the frame of the index is the instruction (any CRC byte),
and its command byte is `b0` under the default parameters (D2, log entry 7). -/
def Sys2Proof.Claims.StandardFrame (index : Sys2Proof.CommandIndices → BitVec 6) (b0 : Sys2Proof.Byte)
    (mk : Sys2Proof.Argument → Sys2Proof.Instr) : Prop :=
  0x40 ||| (index Sys2Proof.Params.default.cmdIndex).setWidth 8 = b0 ∧
  ∀ P : Sys2Proof.Params, P.Legal → ∀ prefixed arg crc,
    Sys2Proof.decode P (.command prefixed)
      [0x40 ||| (index P.cmdIndex).setWidth 8, arg.a0, arg.a1, arg.a2, arg.a3, crc] = .ok (mk arg, [])

/-- Under all legal parameters, after the prefix, the frame of the index is the instruction (any CRC byte), and its
command byte is `b0` under the default parameters (D2, log entry 7). -/
def Sys2Proof.Claims.AppFrame (index : Sys2Proof.CommandIndices → BitVec 6) (b0 : Sys2Proof.Byte)
    (mk : Sys2Proof.Argument → Sys2Proof.Instr) : Prop :=
  0x40 ||| (index Sys2Proof.Params.default.cmdIndex).setWidth 8 = b0 ∧
  ∀ P : Sys2Proof.Params, P.Legal → ∀ arg crc,
    Sys2Proof.decode P (.command true)
      [0x40 ||| (index P.cmdIndex).setWidth 8, arg.a0, arg.a1, arg.a2, arg.a3, crc] = .ok (mk arg, [])

/-- The queue `q` is one of the responses of R119's table, in a card state `t`. -/
def Sys2Proof.Claims.IsResponse (t : Sys2Proof.Machine.State) (q : List Sys2Proof.Byte) : Prop :=
  q = [t.status] ∨
  q = [t.status, 0x00, 0x00, 0x01, t.argument.a3] ∨
  q = t.status :: t.params.ocrBytes.list ∨
  q = [t.status, 0xFE] ++ Sys2Proof.Machine.csdRegister t.params.csdTemplate t.capacityField ++ [0x00, 0x00] ∨
  q = [t.status, 0xFE] ++ (List.range 16).map Sys2Proof.Config.cidByte ++ [0x00, 0x00] ∨
  (∃ d : Sys2Proof.Sector, q = [t.status, 0xFE] ++ d.bytes ++ [0x00, 0x00]) ∨
  q = [t.status, 0x01] ∨
  q = [0x05, 0x01] ∨
  q = Sys2Proof.Config.writeFailFirst :: Sys2Proof.Config.writeFailRest.take 515

section
open Sys2Proof Sys2Proof.Machine Sys2Proof.Claims

/-! ## Encoding -/

/-- R90, R96, R97, R103: under all legal parameters, the bytes of a well-formed instruction, with any CRC bytes and
anything behind them, decode to that instruction and leave what is behind. -/
def Obligations.DecodeOfEncode : Prop :=
  ∀ (P : Params) (i : Instr) (crc1 crc2 : Byte) (rest : List Byte), P.Legal → i.WellFormed P = true →
    decode P (modeOf i) (encode P i crc1 crc2 ++ rest) = .ok (i, rest)

/-- R90, R92, R99: what a command stream decodes to is well-formed, and the bytes taken are its encoding. -/
def Obligations.DecodedBytesAreTheEncoding : Prop :=
  ∀ (P : Params) (prefixed : Bool) (bs rest : List Byte) (i : Instr),
    decode P (.command prefixed) bs = .ok (i, rest) →
    i.WellFormed P = true ∧ ∃ crc, bs = encode P i crc 0 ++ rest

/-- R103, R104: bytes before the first 0xFE are discarded; the 512 bytes after it are the payload, in order. -/
def Obligations.DataFrameStartsAtTheToken : Prop :=
  ∀ (P : Params) (junk rest : List Byte) (payload : Sector) (crc1 crc2 : Byte), (∀ b ∈ junk, b ≠ 0xFE) →
    decode P .data (junk ++ 0xFE :: payload.bytes ++ [crc1, crc2] ++ rest) = .ok (.dataFrame payload, rest) ∧
      decode P .data junk = .error .noDataToken

/-- Words written out from the opcode table's patterns (R90, R96, R97, R103): the table's numbering, with the indices
of D2 (log entry 7) and the reading of log entry 28. -/
def Obligations.TableWordsDecode : Prop :=
  decodeTableWord 48 0x95_00_00_00_00_40 = some (.cmd0GoIdleState ⟨0x00, 0x00, 0x00, 0x00⟩) ∧
  decodeTableWord 48 0x87_AA_01_00_00_48 = some (.cmd8SendIfCond ⟨0x00, 0x00, 0x01, 0xAA⟩) ∧
  decodeTableWord 48 0xFF_78_56_34_12_51 = some (.cmd17ReadSingleBlock ⟨0x12, 0x34, 0x56, 0x78⟩) ∧
  decodeTableWord 48 0xFF_00_00_00_40_69 = some (.acmd41SdSendOpCond ⟨0x40, 0x00, 0x00, 0x00⟩) ∧
  decodeTableWord 48 0xFF_00_02_00_00_50 = some (.illegal 16 ⟨0x00, 0x00, 0x02, 0x00⟩) ∧
  decodeTableWord 8 0xFF = some (.invalidByte 0xFF) ∧
  decodeTableWord 16 0x11FE = some (.dataFrame ((Sector.fill 0).setByte 0 0x11))

/-- R98: the handler that each of the 128 pairs of prefix and index selects: under all legal parameters, and with the
indices written out under the default ones (D2, log entry 7). -/
def Obligations.DecodeSelectsOneHandler : Prop :=
  (∀ (P : Params) (arg : Argument), P.Legal →
    (decodeFrame P true P.cmdIndex.acmd13 arg = .acmd13SdStatus arg ∧
      decodeFrame P true P.cmdIndex.acmd22 arg = .acmd22SendNumWrBlocks arg ∧
      decodeFrame P true P.cmdIndex.acmd23 arg = .acmd23SetWrBlkEraseCount arg ∧
      decodeFrame P true P.cmdIndex.acmd41 arg = .acmd41SdSendOpCond arg ∧
      decodeFrame P true P.cmdIndex.acmd42 arg = .acmd42SetClrCardDetect arg ∧
      decodeFrame P true P.cmdIndex.acmd51 arg = .acmd51SendScr arg) ∧
    (∀ p, decodeFrame P p P.cmdIndex.cmd0 arg = .cmd0GoIdleState arg ∧
      decodeFrame P p P.cmdIndex.cmd8 arg = .cmd8SendIfCond arg ∧
      decodeFrame P p P.cmdIndex.cmd9 arg = .cmd9SendCsd arg ∧
      decodeFrame P p P.cmdIndex.cmd10 arg = .cmd10SendCid arg ∧
      decodeFrame P p P.cmdIndex.cmd17 arg = .cmd17ReadSingleBlock arg ∧
      decodeFrame P p P.cmdIndex.cmd24 arg = .cmd24WriteBlock arg ∧
      decodeFrame P p P.cmdIndex.cmd55 arg = .cmd55AppCmd arg ∧
      decodeFrame P p P.cmdIndex.cmd58 arg = .cmd58ReadOcr arg) ∧
    ∀ p n, n ∉ P.cmdIndex.standard → (p = true → n ∉ P.cmdIndex.app) → decodeFrame P p n arg = .illegal n arg) ∧
  ∀ (p : Bool) (n : BitVec 6) (arg : Argument),
    decodeFrame Params.default p n arg =
      (if p = true ∧ n ∈ [13, 22, 23, 41, 42, 51] then
        match n.toNat with
        | 13 => .acmd13SdStatus arg
        | 22 => .acmd22SendNumWrBlocks arg
        | 23 => .acmd23SetWrBlkEraseCount arg
        | 42 => .acmd42SetClrCardDetect arg
        | 51 => .acmd51SendScr arg
        | _ => .acmd41SdSendOpCond arg
      else
        match n.toNat with
        | 0 => .cmd0GoIdleState arg
        | 8 => .cmd8SendIfCond arg
        | 9 => .cmd9SendCsd arg
        | 10 => .cmd10SendCid arg
        | 17 => .cmd17ReadSingleBlock arg
        | 24 => .cmd24WriteBlock arg
        | 55 => .cmd55AppCmd arg
        | 58 => .cmd58ReadOcr arg
        | _ => .illegal n arg)

/-! ## The argument -/

/-- R93: the argument's value is its four bytes, the first the most significant (R63), and the sector index of CMD17
and CMD24 is that value unscaled (R62, R95). -/
def Obligations.ArgumentIsBigEndian : Prop :=
  ∀ a : Argument,
    (argval a).toNat = a.a0.toNat * 2 ^ 24 + a.a1.toNat * 2 ^ 16 + a.a2.toNat * 2 ^ 8 + a.a3.toNat ∧
    sectorIndex a = a.a0.toNat * 2 ^ 24 + a.a1.toNat * 2 ^ 16 + a.a2.toNat * 2 ^ 8 + a.a3.toNat

/-! ## What each instruction does: the whole next state, so that everything not named is unchanged -/

/-- R180, with the index and argument registers of the frame (R41's go-idle column, log entry 25), the prefix consumed
(R172) and the phase (R175). Its command byte 0x40 is the source's. -/
def Obligations.GoIdleResult : Prop :=
  StandardFrame (·.cmd0) 0x40 .cmd0GoIdleState ∧
  ∀ (arg : Argument) (s : State), s.bound = true →
    exec (.cmd0GoIdleState arg) s =
      .next { dispatched s s.params.cmdIndex.cmd0 arg with
        status := 0x01
        cmd8Seen := false
        responseQueue := [0x01] }

/-- R182, R112; the default index is that of D2 (log entry 7), the cleared bits those of D3 (log entry 8). -/
def Obligations.SendIfCondResult : Prop :=
  StandardFrame (·.cmd8) 0x48 .cmd8SendIfCond ∧
  ∀ (arg : Argument) (s : State), s.bound = true →
    exec (.cmd8SendIfCond arg) s =
      .next { dispatched s s.params.cmdIndex.cmd8 arg with
        cmd8Seen := true
        responseQueue := [cleared s, 0x00, 0x00, 0x01, arg.a3] }

/-- R183, R116, R124 for any template: C_SIZE is the capacity field. The last clause writes the default template of
R123 out (D6, log entry 11); the default index is that of D2 (log entry 7), the cleared bits those of D3 (log entry
8). -/
def Obligations.SendCsdResult : Prop :=
  StandardFrame (·.cmd9) 0x49 .cmd9SendCsd ∧
  ∀ (arg : Argument) (s : State), s.bound = true →
    ∀ csd : List Byte, (csd = (List.range 16).map fun k =>
        if k = 7 then s.params.csdTemplate.list.getD 7 0 &&& 0xC0
        else if k = 8 then s.capacityField.extractLsb' 8 8
        else if k = 9 then s.capacityField.extractLsb' 0 8
        else s.params.csdTemplate.list.getD k 0) →
      exec (.cmd9SendCsd arg) s =
        .next { dispatched s s.params.cmdIndex.cmd9 arg with
          responseQueue := [cleared s, 0xFE] ++ csd ++ [0x00, 0x00] } ∧
      (s.params.csdTemplate = Params.default.csdTemplate →
        csd = [0x40, 0x0E, 0x00, 0x32, 0x5B, 0x59, 0x00, 0x00, s.capacityField.extractLsb' 8 8,
          s.capacityField.extractLsb' 0 8, 0x7F, 0x80, 0x0A, 0x40, 0x00, 0x01])

/-- R184, R117, R125: sixteen bytes that depend on no state, whatever they are (D7, log entry 12). The default index is
that of D2 (log entry 7), the cleared bits those of D3 (log entry 8). -/
def Obligations.SendCidResult : Prop :=
  StandardFrame (·.cmd10) 0x4A .cmd10SendCid ∧
  ∀ (arg : Argument) (s : State), s.bound = true →
    exec (.cmd10SendCid arg) s =
      .next { dispatched s s.params.cmdIndex.cmd10 arg with
        responseQueue := [cleared s, 0xFE] ++ (List.range 16).map Config.cidByte ++ [0x00, 0x00] }

/-- R185, R113 for any OCR bytes; the last clause writes the default of R120 out (D5, log entry 10). The default index
is that of D2 (log entry 7), the cleared bits those of D3 (log entry 8). -/
def Obligations.ReadOcrResult : Prop :=
  StandardFrame (·.cmd58) 0x7A .cmd58ReadOcr ∧
  ∀ (arg : Argument) (s : State), s.bound = true →
    exec (.cmd58ReadOcr arg) s =
      .next { dispatched s s.params.cmdIndex.cmd58 arg with responseQueue := cleared s :: s.params.ocrBytes.list } ∧
    (s.params.ocrBytes = Params.default.ocrBytes → s.params.ocrBytes.list = [0xC0, 0x00, 0x00, 0x00])

/-- R186; the default index is that of D2 (log entry 7), the cleared bits those of D3 (log entry 8). -/
def Obligations.AppCmdResult : Prop :=
  StandardFrame (·.cmd55) 0x77 .cmd55AppCmd ∧
  ∀ (arg : Argument) (s : State), s.bound = true →
    exec (.cmd55AppCmd arg) s =
      .next { dispatched s s.params.cmdIndex.cmd55 arg with cmd55Seen := true, responseQueue := [cleared s] }

/-- R220–R223: range error, store failure, success. The default index is that of D2 (log entry 7), the bits those of D3
(log entry 8), PARAMETER_ERROR 0x40 by default. -/
def Obligations.ReadSingleBlockResult : Prop :=
  StandardFrame (·.cmd17) 0x51 .cmd17ReadSingleBlock ∧ Params.default.r1Param = 0x40 ∧
  ∀ (arg : Argument) (s : State), s.bound = true →
    ∀ t : State, t = dispatched s s.params.cmdIndex.cmd17 arg →
    exec (.cmd17ReadSingleBlock arg) s =
      .next (if s.totalSectors.toNat ≤ sectorIndex arg then
          { t with
            status := cleared s ||| s.params.r1Param
            responseQueue := [cleared s ||| s.params.r1Param] }
        else if s.draw.storeError = true then { t with responseQueue := [cleared s, 0x01] }
        else
          { t with
            responseQueue := [cleared s, 0xFE] ++
              (List.range 512).map (fun k => s.byteAt (512 * sectorIndex arg + k)) ++ [0x00, 0x00] })

/-- R225, R175: acknowledged whatever the index (D11, log entry 21). The default index is that of D2 (log entry 7), the
cleared bits those of D3 (log entry 8). -/
def Obligations.WriteBlockResult : Prop :=
  StandardFrame (·.cmd24) 0x58 .cmd24WriteBlock ∧
  ∀ (arg : Argument) (s : State), s.bound = true →
    exec (.cmd24WriteBlock arg) s =
      .next { dispatched s s.params.cmdIndex.cmd24 arg with
        phase := .awaitingDataToken
        responseQueue := [cleared s] }

/-- R201–R205: ILLEGAL_COMMAND, 0x04 by default, and a status-only response, each with its own index (D2, D3, log
entries 7 and 8). -/
def Obligations.UnimplementedAppCommandsResult : Prop :=
  (AppFrame (·.acmd13) 0x4D .acmd13SdStatus ∧ AppFrame (·.acmd22) 0x56 .acmd22SendNumWrBlocks ∧
    AppFrame (·.acmd23) 0x57 .acmd23SetWrBlkEraseCount ∧ AppFrame (·.acmd42) 0x6A .acmd42SetClrCardDetect ∧
    AppFrame (·.acmd51) 0x73 .acmd51SendScr) ∧
  Params.default.r1Illegal = 0x04 ∧
  ∀ (arg : Argument) (s : State), s.bound = true →
    ∀ (q : Byte) (x : CommandIndices), q = cleared s ||| s.params.r1Illegal → x = s.params.cmdIndex →
      exec (.acmd13SdStatus arg) s = .next { dispatched s x.acmd13 arg with status := q, responseQueue := [q] } ∧
      exec (.acmd22SendNumWrBlocks arg) s =
        .next { dispatched s x.acmd22 arg with status := q, responseQueue := [q] } ∧
      exec (.acmd23SetWrBlkEraseCount arg) s =
        .next { dispatched s x.acmd23 arg with status := q, responseQueue := [q] } ∧
      exec (.acmd42SetClrCardDetect arg) s =
        .next { dispatched s x.acmd42 arg with status := q, responseQueue := [q] } ∧
      exec (.acmd51SendScr arg) s = .next { dispatched s x.acmd51 arg with status := q, responseQueue := [q] }

/-- R206: IN_IDLE is cleared when CMD8 was seen and the host-capacity-support bit of the argument is set, and is
otherwise kept. The bit is bit 30 by default (D4, log entry 9), the response that of D27 (log entry 24), the default
index that of D2 (log entry 7), the cleared bits those of D3 (log entry 8). -/
def Obligations.SendOpCondResult : Prop :=
  AppFrame (·.acmd41) 0x69 .acmd41SdSendOpCond ∧ Params.default.hcsBit = 30 ∧
  ∀ (arg : Argument) (s : State), s.bound = true →
    ∀ q : Byte, q = (if s.cmd8Seen = true ∧ (argval arg).getLsbD s.params.hcsBit = true then cleared s &&& 0xFE
        else cleared s) →
      exec (.acmd41SdSendOpCond arg) s =
        .next { dispatched s s.params.cmdIndex.acmd41 arg with status := q, responseQueue := [q] }

/-- R187, R99: an index that no standard command has, and the 56 of them under the default parameters (D2, log entry
7); the bits are those of D3 (log entry 8). -/
def Obligations.IllegalIndexResult : Prop :=
  (∀ n : BitVec 6, n ∈ Params.default.cmdIndex.standard ↔ n ∈ [0, 8, 9, 10, 17, 24, 55, 58]) ∧
  ∀ (n : BitVec 6) (arg : Argument) (s : State), n ∉ s.params.cmdIndex.standard → s.bound = true →
    (∀ crc, decode s.params (.command false) [0x40 ||| n.setWidth 8, arg.a0, arg.a1, arg.a2, arg.a3, crc] =
      .ok (.illegal n arg, [])) ∧
    exec (.illegal n arg) s =
      .next { dispatched s n arg with
        status := cleared s ||| s.params.r1Illegal
        responseQueue := [cleared s ||| s.params.r1Illegal] }

/-- R152, R92: the byte is discarded, and writing it in `AwaitingCommand` changes no field of the card. -/
def Obligations.InvalidByteDiscarded : Prop :=
  ∀ (b : Byte) (s : State) (d : Draw) (rest : List Input), b.toNat < 0x40 ∨ 0x7F < b.toNat →
    (∀ P p more, decode P (.command p) (b :: more) = .ok (.invalidByte b, more)) ∧
    exec (.invalidByte b) s = .next s ∧
    (s.phase = .awaitingCommand → s.inputs = ⟨.write b, d⟩ :: rest → step s = .next (taken s d rest))

/-- R229–R232: range error (D12, log entry 21; its bit D3, log entry 8), store failure (the response D13, log entry 13;
the cache D16, log entry 18), write and acknowledge, at the sector of the CMD24 argument. -/
def Obligations.DataFrameResult : Prop :=
  ∀ (payload : Sector) (s : State), s.bound = true →
    ∀ t : State, t = { s with writePayload := payload, payloadCount := 512, phase := .awaitingCommand } →
    exec (.dataFrame payload) s =
      .next (if s.totalSectors.toNat ≤ sectorIndex s.argument then
          { t with
            status := s.status ||| s.params.r1Param
            responseQueue := [s.status ||| s.params.r1Param] }
        else if s.draw.storeError = true then
          { t with
            cache := if s.draw.failedWriteLands = true then s.cache.put (sectorIndex s.argument) payload else s.cache
            responseQueue := Config.writeFailFirst :: Config.writeFailRest.take 515 }
        else
          { t with
            cache := s.cache.put (sectorIndex s.argument) payload
            responseQueue := [0x05, 0x01] })

/-- R140: no byte written to an unbound card does anything. That a whole instruction does nothing there either is the
model's reading of that rule (DEDUCED, log entry 26). -/
def Obligations.UnboundCardIgnoresWrites : Prop :=
  ∀ (s : State), s.bound = false →
    (∀ i : Instr, exec i s = .next s) ∧
    ∀ (b : Byte) (d : Draw) (rest : List Input), s.inputs = ⟨.write b, d⟩ :: rest → step s = .next (taken s d rest)

/-! ## Frames -/

/-- What each instruction leaves unchanged, as its rule says (R28, R33, R35, R36, R83, R176, R260). -/
def Obligations.InstructionFrame : Prop :=
  ∀ (i : Instr) (s t : State), exec i s = .next t →
    (t.params = s.params ∧ t.bound = s.bound ∧ t.totalSectors = s.totalSectors ∧
      t.capacityField = s.capacityField ∧ t.medium = s.medium ∧ t.inputs = s.inputs ∧ t.draw = s.draw ∧
      t.reply = s.reply) ∧
    ((∀ p, i ≠ .dataFrame p) → t.cache = s.cache ∧ t.writePayload = s.writePayload ∧
      t.payloadCount = s.payloadCount ∧ ∀ a, t.byteAt a = s.byteAt a) ∧
    ((∀ arg, i ≠ .cmd0GoIdleState arg ∧ i ≠ .cmd8SendIfCond arg) → t.cmd8Seen = s.cmd8Seen) ∧
    (∀ p, i = .dataFrame p → t.currentCommand = s.currentCommand ∧ t.argument = s.argument ∧
      t.cmd55Seen = s.cmd55Seen)

/-- R64, R68, R230, R231: the bytes a data frame stores are the 512 bytes of the argument's sector, when the index is
in range (D12, log entry 21) and the store took them, which a failed write may (D16, log entry 18); every other byte of
the sector space reads as before. -/
def Obligations.DataFrameStoresOneSector : Prop :=
  ∀ (payload : Sector) (s : State), CardInv s → s.bound = true →
    ∃ t, exec (.dataFrame payload) s = .next t ∧
      ∀ a, t.byteAt a =
        if a / 512 = sectorIndex s.argument ∧ sectorIndex s.argument < s.totalSectors.toNat ∧
            (s.draw.storeError = false ∨ s.draw.failedWriteLands = true)
        then payload.byte (a % 512) else s.byteAt a

/-- R181: go-idle is the effects of reset(), then IN_IDLE and the response, but for the payload buffer and its
counter and the registers of the frame itself (an inference the spec marks as its own, log entry 33). -/
def Obligations.GoIdleIsResetThenIdle : Prop :=
  ∀ (arg : Argument) (s : State), s.bound = true →
    exec (.cmd0GoIdleState arg) s =
      .next { s.resetBus with
        status := 0x01
        responseQueue := [0x01]
        payloadCount := s.payloadCount
        writePayload := s.writePayload
        currentCommand := s.params.cmdIndex.cmd0
        argument := arg }

/-! ## The step: the byte transport -/

/-- The step that completes an instruction is `exec` of what the instruction's bytes decode to, at the state whose
next host call is taken: a discarded byte, a command frame's CRC byte, a data frame's second CRC byte (R141, R157,
R229). -/
def Obligations.StepRunsTheDecodedInstruction : Prop :=
  ∀ (s : State) (b : Byte) (d : Draw) (rest : List Input) (i : Instr),
    s.bound = true → s.inputs = ⟨.write b, d⟩ :: rest →
    (s.phase = .awaitingCommand → decode s.params (.command s.cmd55Seen) [b] = .ok (i, []) →
      step s = exec i (taken s d rest)) ∧
    (s.phase = .awaitingCrc →
      decode s.params (.command s.cmd55Seen) [0x40 ||| s.currentCommand.setWidth 8,
        s.argument.a0, s.argument.a1, s.argument.a2, s.argument.a3, b] = .ok (i, []) →
      step s = exec i (taken s d rest)) ∧
    (s.phase = .awaitingDataCrc2 →
      (∃ crc1, decode s.params .data (0xFE :: s.writePayload.bytes ++ [crc1, b]) = .ok (i, [])) →
      step s = exec i (taken s d rest))

/-- R151, R153–R156: the bytes of a frame before its CRC byte. -/
def Obligations.ParserTakesFrameBytes : Prop :=
  ∀ (s : State) (b : Byte) (d : Draw) (rest : List Input), s.bound = true → s.inputs = ⟨.write b, d⟩ :: rest →
    (s.phase = .awaitingCommand → 0x40 ≤ b.toNat → b.toNat ≤ 0x7F →
      step s = .next { taken s d rest with currentCommand := b.extractLsb' 0 6, phase := .awaitingArg0 }) ∧
    (s.phase = .awaitingArg0 →
      step s = .next { taken s d rest with argument := { s.argument with a0 := b }, phase := .awaitingArg1 }) ∧
    (s.phase = .awaitingArg1 →
      step s = .next { taken s d rest with argument := { s.argument with a1 := b }, phase := .awaitingArg2 }) ∧
    (s.phase = .awaitingArg2 →
      step s = .next { taken s d rest with argument := { s.argument with a2 := b }, phase := .awaitingArg3 }) ∧
    (s.phase = .awaitingArg3 →
      step s = .next { taken s d rest with argument := { s.argument with a3 := b }, phase := .awaitingCrc })

/-- R226–R228: the bytes of a data frame before its second CRC byte. -/
def Obligations.DataPhaseTakesBytes : Prop :=
  ∀ (s : State) (b : Byte) (d : Draw) (rest : List Input), s.bound = true → s.inputs = ⟨.write b, d⟩ :: rest →
    (s.phase = .awaitingDataToken →
      step s = .next (if b = 0xFE then { taken s d rest with payloadCount := 0, phase := .awaitingData }
        else taken s d rest)) ∧
    (s.phase = .awaitingData → s.payloadCount < 512 →
      ∃ p : Sector, (∀ k, p.byte k = if k = s.payloadCount then b else s.writePayload.byte k) ∧
        step s = .next { taken s d rest with
          writePayload := p
          payloadCount := s.payloadCount + 1
          phase := if s.payloadCount = 511 then .awaitingDataCrc1 else .awaitingData }) ∧
    (s.phase = .awaitingDataCrc1 → step s = .next { taken s d rest with phase := .awaitingDataCrc2 })

/-- R150: the transition table, and the calls that leave it. -/
def Obligations.PhaseTransitionTable : Prop :=
  ∀ (s : State) (c : HostCall) (d : Draw) (rest : List Input), CardInv s → s.inputs = ⟨c, d⟩ :: rest →
    ∃ t, step s = .next t ∧
      (∀ b, c = .write b → s.bound = true →
        t.phase = match s.phase with
          | .awaitingCommand => if b &&& 0xC0 = 0x40 then .awaitingArg0 else .awaitingCommand
          | .awaitingArg0 => .awaitingArg1
          | .awaitingArg1 => .awaitingArg2
          | .awaitingArg2 => .awaitingArg3
          | .awaitingArg3 => .awaitingCrc
          | .awaitingCrc =>
            if decodeFrame s.params s.cmd55Seen s.currentCommand s.argument = .cmd24WriteBlock s.argument then
              .awaitingDataToken
            else .awaitingCommand
          | .awaitingDataToken => if b = 0xFE then .awaitingData else .awaitingDataToken
          | .awaitingData => if s.payloadCount < 511 then .awaitingData else .awaitingDataCrc1
          | .awaitingDataCrc1 => .awaitingDataCrc2
          | .awaitingDataCrc2 => .awaitingCommand) ∧
      (c = .reset ∨ (∃ path, c = .bind path) ∨ c = .unbind → t.phase = .awaitingCommand)

/-- R23: read, commit and is_dirty never move `command_state`; reset, bind and unbind force `AwaitingCommand`; an
unbound card's write and an idle step leave it. -/
def Obligations.WhatMovesThePhase : Prop :=
  ∀ (s t : State), CardInv s → step s = .next t →
    (t.phase = s.phase ∨ t.phase = .awaitingCommand ∨ ∃ b d rest, s.inputs = ⟨.write b, d⟩ :: rest ∧ s.bound = true) ∧
    (s.inputs = [] → t.phase = s.phase) ∧
    (∀ c d rest, s.inputs = ⟨c, d⟩ :: rest →
      (c = .read ∨ c = .commit ∨ c = .isDirty → t.phase = s.phase) ∧
      (c = .reset ∨ (∃ path, c = .bind path) ∨ c = .unbind → t.phase = .awaitingCommand))

/-- R142: read() pops the front byte, or returns 0xFF from an empty queue; nothing else changes, in any phase. -/
def Obligations.ReadPopsTheQueue : Prop :=
  ∀ (s : State) (d : Draw) (rest : List Input), s.inputs = ⟨.read, d⟩ :: rest →
    (s.responseQueue = [] → step s = .next { taken s d rest with reply := .byte 0xFF }) ∧
    (∀ b q, s.responseQueue = b :: q →
      step s = .next { taken s d rest with responseQueue := q, reply := .byte b })

/-- R143, an inference the spec marks as its own: an unbound card's read() returns 0xFF. -/
def Obligations.UnboundReadIsIdleLine : Prop :=
  ∀ (s : State) (d : Draw) (rest : List Input), CardInv s → s.bound = false → s.inputs = ⟨.read, d⟩ :: rest →
    step s = .next { taken s d rest with reply := .byte 0xFF }

/-- R94: a command CRC byte of any value is accepted, and no bit of it reaches any state; the same for both data CRC
bytes (R228, R229). -/
def Obligations.CrcReachesNoState : Prop :=
  ∀ (s : State) (b b' : Byte) (d : Draw) (rest : List Input),
    s.phase = .awaitingCrc ∨ s.phase = .awaitingDataCrc1 ∨ s.phase = .awaitingDataCrc2 →
    ∃ t, step { s with inputs := ⟨.write b, d⟩ :: rest } = .next t ∧
      step { s with inputs := ⟨.write b', d⟩ :: rest } = .next t

/-- R119: a write leaves the queue alone, or replaces it (D8, log entry 14) by one of the listed responses. The default
OCR bytes are D5's (log entry 10), the default CSD template D6's (log entry 11), the open CID and failed-write response
those of D7 and D13 (log entries 12 and 13). -/
def Obligations.EveryResponseIsListed : Prop :=
  ∀ (s t : State) (b : Byte) (d : Draw) (rest : List Input),
    s.inputs = ⟨.write b, d⟩ :: rest → step s = .next t →
    t.responseQueue = s.responseQueue ∨ IsResponse t t.responseQueue

/-- R25: the writes that dispatch CMD0, or ACMD41 under its condition, change IN_IDLE, and no others do; reset, bind
and unbind clear it (D9, log entry 6); no other call changes it. The default indices are D2's (log entry 7), the
default place of the argument's bit D4's (log entry 9). -/
def Obligations.WhatChangesInIdle : Prop :=
  ∀ (s : State) (c : HostCall) (d : Draw) (rest : List Input) (i : Instr), CardInv s → s.inputs = ⟨c, d⟩ :: rest →
    i = decodeFrame s.params s.cmd55Seen s.currentCommand s.argument →
    ∃ t, step s = .next t ∧
      t.status.getLsbD 0 = match c with
        | .write _ =>
          if s.bound = true ∧ s.phase = .awaitingCrc ∧ i = .cmd0GoIdleState s.argument then true
          else if s.bound = true ∧ s.phase = .awaitingCrc ∧ i = .acmd41SdSendOpCond s.argument ∧
              s.cmd8Seen = true ∧ (argval s.argument).getLsbD s.params.hcsBit = true then false
          else s.status.getLsbD 0
        | .reset => false
        | .bind _ => false
        | .unbind => false
        | .read => s.status.getLsbD 0
        | .commit => s.status.getLsbD 0
        | .isDirty => s.status.getLsbD 0

/-- R34, R172, R186: a dispatch leaves the prefix set exactly when it ran CMD55, and no other byte touches it. -/
def Obligations.PrefixLastsOneDispatch : Prop :=
  ∀ (s : State) (b : Byte) (d : Draw) (rest : List Input), s.bound = true → s.inputs = ⟨.write b, d⟩ :: rest →
    ∃ t, step s = .next t ∧
      (s.phase = .awaitingCrc → (t.cmd55Seen = true ↔
        decodeFrame s.params s.cmd55Seen s.currentCommand s.argument = .cmd55AppCmd s.argument)) ∧
      (s.phase ≠ .awaitingCrc → t.cmd55Seen = s.cmd55Seen)

/-- R44, an inference the spec marks as its own: during the data phase `current_command` is the write-block index (24 by
default, D2, log entry 7), and no byte received there changes it or the argument. -/
def Obligations.DataPhaseKeepsTheCommand : Prop :=
  ∀ (s : State) (b : Byte) (d : Draw) (rest : List Input), CardInv s → s.phase.isData = true →
    s.inputs = ⟨.write b, d⟩ :: rest →
    s.currentCommand = s.params.cmdIndex.cmd24 ∧
      ∃ t, step s = .next t ∧ t.currentCommand = s.currentCommand ∧ t.argument = s.argument

/-- R323: after CMD24, bytes other than 0xFE are discarded, however many. -/
def Obligations.DeafUntilTheToken : Prop :=
  ∀ (bs : List Byte) (d : Draw) (rest : List Input) (s : State), (∀ b ∈ bs, b ≠ 0xFE) →
    s.phase = .awaitingDataToken →
    s.inputs = bs.map (fun b => ⟨.write b, d⟩) ++ rest → bs ≠ [] →
    Sys2Proof.core.run bs.length s = .next (taken s d rest)

/-- R188 (D21, log entry 24): no handler reads IN_IDLE. Two cards that differ in that bit alone differ afterwards
at most in that bit of `status` and of the first byte of the response. -/
def Obligations.NoCommandReadsInIdle : Prop :=
  ∀ (i : Instr) (s : State),
    ∃ t t', exec i s = .next t ∧ exec i { s with status := s.status ^^^ 0x01 } = .next t' ∧
      t' = { t with status := t'.status, responseQueue := t'.responseQueue } ∧
      t'.responseQueue.tail = t.responseQueue.tail ∧
      t'.responseQueue.head?.map (· &&& 0xFE) = t.responseQueue.head?.map (· &&& 0xFE) ∧
      t'.status &&& 0xFE = t.status &&& 0xFE

/-! ## Whole instructions from single bytes -/

/-- R90, R150, R157: the six bytes of a frame, written one call at a time in `AwaitingCommand`, do what `exec` says of
the instruction they decode to. -/
def Obligations.FrameBytesRunTheInstruction : Prop :=
  ∀ (s : State) (b0 a0 a1 a2 a3 crc : Byte) (d0 d1 d2 d3 d4 d5 : Draw) (rest : List Input) (i : Instr),
    s.phase = .awaitingCommand →
    s.inputs = [⟨.write b0, d0⟩, ⟨.write a0, d1⟩, ⟨.write a1, d2⟩, ⟨.write a2, d3⟩, ⟨.write a3, d4⟩,
      ⟨.write crc, d5⟩] ++ rest →
    decode s.params (.command s.cmd55Seen) [b0, a0, a1, a2, a3, crc] = .ok (i, []) →
    Sys2Proof.core.run 6 s = exec i (taken s d5 rest)

/-- R103, R226–R229: discarded bytes, the token, 512 payload bytes and two CRC bytes, written one call at a time in
`AwaitingDataToken`, do what `exec` says of the data frame. -/
def Obligations.DataBytesRunTheDataFrame : Prop :=
  ∀ (s : State) (junk : List Byte) (payload : Sector) (crc1 crc2 : Byte) (front rest : List Input) (d : Draw),
    s.phase = .awaitingDataToken → (∀ b ∈ junk, b ≠ 0xFE) →
    front.map Input.call = (junk ++ 0xFE :: payload.bytes ++ [crc1]).map HostCall.write →
    s.inputs = front ++ ⟨.write crc2, d⟩ :: rest →
    Sys2Proof.core.run (junk.length + 515) s = exec (.dataFrame payload) (taken s d rest)

/-! ## Invariants and the whole machine -/

/-- A card powers on unbound and legal, so with R41's construction column in every field that has a value there (R42).
Its status 0x00 is D9 (log entry 6), its zero capacity fields are D20. The parameters are the defaults (log entry 37).
It rests on no value of log entry 4. -/
def Obligations.PowerOnIsLegal : Prop :=
  CardInv State.reset ∧ State.reset.bound = false ∧ State.reset.params = Params.default

/-- Every step keeps legal parameters (log entry 38), the invariants of 10_state.md section 9 (R27, R31, R43, R44, R45),
at most one error bit (R289) and the canonical forms of the store. Some are the spec's own decisions and inferences:
D3, D14, D15, D26 (log entries 8, 22 and 23). That an unbound card is clean follows from R41 and the management calls:
its status 0x00 is D9 (log entry 6), its empty cache D17 (log entry 19), its zero capacity fields D20. -/
def Obligations.EveryStepKeepsCardInv : Prop := ∀ s t : State, CardInv s → step s = .next t → CardInv t

/-- R285: no step stops; write returns nothing, and read always returns a byte. -/
def Obligations.NoErrorCrossesTheBoundary : Prop :=
  ∀ s : State, ¬Stops s ∧ ∃ t, step s = .next t ∧
    ∀ c d rest, s.inputs = ⟨c, d⟩ :: rest →
      ((∃ b, c = .write b) → t.reply = .nothing) ∧ (c = .read → ∃ b, t.reply = .byte b)

/-- R35, R36: only bind and unbind change the binding and the capacity fields. -/
def Obligations.OnlyBindAndUnbindChangeTheBinding : Prop :=
  ∀ (s t : State), step s = .next t →
    (t.bound = s.bound ∧ t.totalSectors = s.totalSectors ∧ t.capacityField = s.capacityField) ∨
    ∃ c d rest, s.inputs = ⟨c, d⟩ :: rest ∧ ((∃ path, c = .bind path) ∨ c = .unbind)

/-- R10: the parameters are an argument of the model, so no step changes them (log entry 37). -/
def Obligations.ParametersNeverChange : Prop := ∀ s t : State, step s = .next t → t.params = s.params

/-! ## The store -/

/-- R64, R79, R223, R231: a payload written to a sector is what CMD17 of that sector returns, before any commit, and
the card is dirty in between. The cleared bits of the status byte are those of D3 (log entry 8). -/
def Obligations.WrittenSectorReadsBack : Prop :=
  ∀ (payload : Sector) (s : State), CardInv s → s.bound = true → s.draw.storeError = false →
    sectorIndex s.argument < s.totalSectors.toNat →
    ∃ t u, exec (.dataFrame payload) s = .next t ∧ t.cache ≠ [] ∧
      exec (.cmd17ReadSingleBlock s.argument) t = .next u ∧
      u.responseQueue = [cleared s, 0xFE] ++ payload.bytes ++ [0x00, 0x00]

/-- R84, R69, R258: after a commit whose flush succeeds the cache is empty, and the medium holds what every sector
read as before; no other field of the card changes. -/
def Obligations.CommitMakesWritesDurable : Prop :=
  ∀ (s : State) (d : Draw) (rest : List Input), CardInv s → s.bound = true → d.storeError = false →
    s.inputs = ⟨.commit, d⟩ :: rest →
    ∃ m : Memory, step s = .next { taken s d rest with medium := m, cache := [], reply := .ok } ∧
      ∀ a, m.read a = s.byteAt a

/-- R69, R258, D19: a failed flush changes no field of the card, and no byte of the sector space reads otherwise than
before, whichever entries reached the medium. That it holds rests on the reading of log entry 17. -/
def Obligations.FailedCommitLosesNoByte : Prop :=
  ∀ (s : State) (d : Draw) (rest : List Input), CardInv s → s.bound = true → d.storeError = true →
    s.inputs = ⟨.commit, d⟩ :: rest →
    ∃ t, step s = .next t ∧
      t = { taken s d rest with medium := t.medium, cache := t.cache, reply := .flushError } ∧
      ∀ a, t.byteAt a = s.byteAt a

/-- R258, D18 (log entry 20): commit on an unbound card is `ok` with no effect. -/
def Obligations.UnboundCommitIsOk : Prop :=
  ∀ (s : State) (d : Draw) (rest : List Input), s.bound = false → s.inputs = ⟨.commit, d⟩ :: rest →
    step s = .next { taken s d rest with reply := .ok }

/-- R259, R72, D18 (log entry 20): is_dirty says whether a bound card's cache is non-empty, and changes nothing. -/
def Obligations.IsDirtyReportsTheCache : Prop :=
  ∀ (s : State) (d : Draw) (rest : List Input), s.inputs = ⟨.isDirty, d⟩ :: rest →
    ∃ v, step s = .next { taken s d rest with reply := .dirty v } ∧ (v = true ↔ s.bound = true ∧ s.cache ≠ [])

/-! ## The management calls that reset -/

/-- R250: what reset() writes; every field it does not name is unchanged, the store too. The payload buffer is left
with some unspecified content (R41, log entry 5). The zero status is D9 (log entry 6). -/
def Obligations.ResetCallResult : Prop :=
  ∀ (s : State) (d : Draw) (rest : List Input), s.inputs = ⟨.reset, d⟩ :: rest →
    ∃ p : Sector, step s = .next { taken s d rest with
      phase := .awaitingCommand
      status := 0x00
      responseQueue := []
      cmd8Seen := false
      cmd55Seen := false
      payloadCount := 0
      writePayload := p }

/-- R257, R71: unbind clears the binding and the capacity fields, discards the cache unflushed (D17, log entry 19), and
resets the bus: zero status (D9, log entry 6) and some payload content (log entry 5). The zero capacity fields are D20,
the unbound card's case D18 (log entry 20). -/
def Obligations.UnbindResult : Prop :=
  ∀ (s : State) (d : Draw) (rest : List Input), CardInv s → s.inputs = ⟨.unbind, d⟩ :: rest →
    ∃ p : Sector, step s = .next { taken s d rest with
      bound := false
      totalSectors := 0
      capacityField := 0
      medium := []
      cache := []
      phase := .awaitingCommand
      status := 0x00
      responseQueue := []
      cmd8Seen := false
      cmd55Seen := false
      payloadCount := 0
      writePayload := p }

/-- R251–R256, R261, R66: bind succeeds exactly on a medium the adapter opens, of 512-byte sectors, a positive multiple
of 1024 of them and a capacity field below 65375. It then stores both fields, resets the bus, and the sector space
holds the medium's image: each byte is the last cell the image lists for it (log entries 15 and 34). Otherwise the card
is unbound, the old medium gone. The product, zero and the widths are D14 and D15 (log entry 22), the adapter's error
D25 (log entry 32), the zero status D9 (log entry 6), the empty cache D17 (log entry 19), the zero capacity fields
D20. -/
def Obligations.BindOutcome : Prop :=
  ∀ (s : State) (path : String) (d : Draw) (rest : List Input) (T : Nat), CardInv s →
    s.inputs = ⟨.bind path, d⟩ :: rest →
    T = d.geometry.cylinders * d.geometry.heads * d.geometry.sectorsPerTrack →
    ∃ t, step s = .next t ∧
      (t.phase = .awaitingCommand ∧ t.status = 0x00 ∧ t.responseQueue = [] ∧ t.cmd8Seen = false ∧
        t.cmd55Seen = false ∧ t.payloadCount = 0 ∧ t.cache = []) ∧
      (t.currentCommand = s.currentCommand ∧ t.argument = s.argument ∧ t.inputs = rest ∧ t.draw = d) ∧
      if d.storeError = false ∧ d.geometry.sectorSize = 512 ∧ T % 1024 = 0 ∧ T ≠ 0 ∧ T / 1024 - 1 < 65375 then
        t.reply = .ok ∧ t.bound = true ∧ t.totalSectors.toNat = T ∧ t.capacityField.toNat = T / 1024 - 1 ∧
          ∀ a < 512 * T, t.byteAt a =
            ((d.image.filter fun c => c.1 = a).getLast?.map Prod.snd).getD Config.unlistedByte
      else
        t.reply = .bindError ∧ t.bound = false ∧ t.totalSectors = 0 ∧ t.capacityField = 0 ∧ t.medium = []

end
end

