-- ==== Sys2Proof/Laws/Decode.lean ====
section
/-! SUPPORT. The command byte, the two framings, and which instruction a frame is. -/

namespace Sys2Proof

/-! ## The command byte (30_encoding.md R91, R92) -/

theorem isCommandByte_commandByte (n : BitVec 6) : isCommandByte (commandByte n) = true := by revert n; decide

theorem commandIndex_commandByte (n : BitVec 6) : commandIndex (commandByte n) = n := by revert n; decide

theorem commandByte_commandIndex (b : Byte) (h : isCommandByte b = true) : commandByte (commandIndex b) = b := by
  revert b; decide

theorem commandByte_eq_or (n : BitVec 6) : (0x40 ||| n.setWidth 8 : Byte) = commandByte n := by revert n; decide

theorem isCommandByte_iff_range (b : Byte) : isCommandByte b = true ↔ 0x40 ≤ b.toNat ∧ b.toNat ≤ 0x7F := by
  revert b; decide

theorem isCommandByte_iff_mask (b : Byte) : isCommandByte b = true ↔ b &&& 0xC0 = 0x40 := by revert b; decide

/-! ## Framing (R90, R103) -/

/-- A whole frame is taken with its index and argument, whatever its CRC byte. -/
theorem decodeCommand_encodeFrame (P : Params) (prefixed : Bool) (n : BitVec 6) (arg : Argument) (crc : Byte)
    (rest : List Byte) :
    decodeCommand P prefixed (encodeFrame n arg crc ++ rest) = .ok (decodeFrame P prefixed n arg, rest) := by
  simp [decodeCommand, encodeFrame, isCommandByte_commandByte, commandIndex_commandByte]

/-- A byte that is no command byte is an instruction of its own. -/
theorem decodeCommand_invalid {b : Byte} (h : isCommandByte b = false) (P : Params) (prefixed : Bool)
    (rest : List Byte) : decodeCommand P prefixed (b :: rest) = .ok (.invalidByte b, rest) := by simp [decodeCommand, h]

/-- A sector's bytes in front of a list are taken as that sector. -/
theorem takeSector_bytes (p : Sector) (rest : List Byte) : takeSector (p.bytes ++ rest) = some (p, rest) := by
  have h := p.size
  have h₁ : (p.bytes ++ rest).take 512 = p.bytes := by rw [← h, List.take_left']; rfl
  have h₂ : (p.bytes ++ rest).drop 512 = rest := by rw [← h, List.drop_left']; rfl
  simp only [takeSector, h₁, h₂, h]
  simp

/-! ## Which instruction a frame is (R96–R98) -/

/-- Everything the standard tier can answer. -/
theorem decodeStandard_cases (P : Params) (n : BitVec 6) (arg : Argument) :
    (n = P.cmdIndex.cmd0 ∧ decodeStandard P n arg = .cmd0GoIdleState arg) ∨
    (n = P.cmdIndex.cmd8 ∧ decodeStandard P n arg = .cmd8SendIfCond arg) ∨
    (n = P.cmdIndex.cmd9 ∧ decodeStandard P n arg = .cmd9SendCsd arg) ∨
    (n = P.cmdIndex.cmd10 ∧ decodeStandard P n arg = .cmd10SendCid arg) ∨
    (n = P.cmdIndex.cmd17 ∧ decodeStandard P n arg = .cmd17ReadSingleBlock arg) ∨
    (n = P.cmdIndex.cmd24 ∧ decodeStandard P n arg = .cmd24WriteBlock arg) ∨
    (n = P.cmdIndex.cmd55 ∧ decodeStandard P n arg = .cmd55AppCmd arg) ∨
    (n = P.cmdIndex.cmd58 ∧ decodeStandard P n arg = .cmd58ReadOcr arg) ∨
    (n ∉ P.cmdIndex.standard ∧ decodeStandard P n arg = .illegal n arg) := by
  unfold decodeStandard CommandIndices.standard
  split_ifs with h₁ h₂ h₃ h₄ h₅ h₆ h₇ h₈
  · exact .inl ⟨h₁, rfl⟩
  · exact .inr (.inl ⟨h₂, rfl⟩)
  · exact .inr (.inr (.inl ⟨h₃, rfl⟩))
  · exact .inr (.inr (.inr (.inl ⟨h₄, rfl⟩)))
  · exact .inr (.inr (.inr (.inr (.inl ⟨h₅, rfl⟩))))
  · exact .inr (.inr (.inr (.inr (.inr (.inl ⟨h₆, rfl⟩)))))
  · exact .inr (.inr (.inr (.inr (.inr (.inr (.inl ⟨h₇, rfl⟩))))))
  · exact .inr (.inr (.inr (.inr (.inr (.inr (.inr (.inl ⟨h₈, rfl⟩)))))))
  · iterate 8 right
    exact ⟨by simp [*], rfl⟩

/-- Everything the application tier can answer. -/
theorem decodeApp_cases (P : Params) (n : BitVec 6) (arg : Argument) :
    (n = P.cmdIndex.acmd13 ∧ decodeApp P n arg = some (.acmd13SdStatus arg)) ∨
    (n = P.cmdIndex.acmd22 ∧ decodeApp P n arg = some (.acmd22SendNumWrBlocks arg)) ∨
    (n = P.cmdIndex.acmd23 ∧ decodeApp P n arg = some (.acmd23SetWrBlkEraseCount arg)) ∨
    (n = P.cmdIndex.acmd42 ∧ decodeApp P n arg = some (.acmd42SetClrCardDetect arg)) ∨
    (n = P.cmdIndex.acmd51 ∧ decodeApp P n arg = some (.acmd51SendScr arg)) ∨
    (n = P.cmdIndex.acmd41 ∧ decodeApp P n arg = some (.acmd41SdSendOpCond arg)) ∨
    (n ∉ P.cmdIndex.app ∧ decodeApp P n arg = none) := by
  unfold decodeApp CommandIndices.app
  split_ifs with h₁ h₂ h₃ h₄ h₅ h₆
  · exact .inl ⟨h₁, rfl⟩
  · exact .inr (.inl ⟨h₂, rfl⟩)
  · exact .inr (.inr (.inl ⟨h₃, rfl⟩))
  · exact .inr (.inr (.inr (.inl ⟨h₄, rfl⟩)))
  · exact .inr (.inr (.inr (.inr (.inl ⟨h₅, rfl⟩))))
  · exact .inr (.inr (.inr (.inr (.inr (.inl ⟨h₆, rfl⟩)))))
  · iterate 6 right
    exact ⟨by simp [*], rfl⟩

/-- Everything `decodeFrame` can answer, with the index, and the prefix for an application command. -/
theorem decodeFrame_cases (P : Params) (p : Bool) (n : BitVec 6) (arg : Argument) :
    (n = P.cmdIndex.cmd0 ∧ decodeFrame P p n arg = .cmd0GoIdleState arg) ∨
    (n = P.cmdIndex.cmd8 ∧ decodeFrame P p n arg = .cmd8SendIfCond arg) ∨
    (n = P.cmdIndex.cmd9 ∧ decodeFrame P p n arg = .cmd9SendCsd arg) ∨
    (n = P.cmdIndex.cmd10 ∧ decodeFrame P p n arg = .cmd10SendCid arg) ∨
    (n = P.cmdIndex.cmd17 ∧ decodeFrame P p n arg = .cmd17ReadSingleBlock arg) ∨
    (n = P.cmdIndex.cmd24 ∧ decodeFrame P p n arg = .cmd24WriteBlock arg) ∨
    (n = P.cmdIndex.cmd55 ∧ decodeFrame P p n arg = .cmd55AppCmd arg) ∨
    (n = P.cmdIndex.cmd58 ∧ decodeFrame P p n arg = .cmd58ReadOcr arg) ∨
    (p = true ∧ n = P.cmdIndex.acmd13 ∧ decodeFrame P p n arg = .acmd13SdStatus arg) ∨
    (p = true ∧ n = P.cmdIndex.acmd22 ∧ decodeFrame P p n arg = .acmd22SendNumWrBlocks arg) ∨
    (p = true ∧ n = P.cmdIndex.acmd23 ∧ decodeFrame P p n arg = .acmd23SetWrBlkEraseCount arg) ∨
    (p = true ∧ n = P.cmdIndex.acmd42 ∧ decodeFrame P p n arg = .acmd42SetClrCardDetect arg) ∨
    (p = true ∧ n = P.cmdIndex.acmd51 ∧ decodeFrame P p n arg = .acmd51SendScr arg) ∨
    (p = true ∧ n = P.cmdIndex.acmd41 ∧ decodeFrame P p n arg = .acmd41SdSendOpCond arg) ∨
    (n ∉ P.cmdIndex.standard ∧ (p = true → n ∉ P.cmdIndex.app) ∧ decodeFrame P p n arg = .illegal n arg) := by
  by_cases ha : p = true ∧ n ∈ P.cmdIndex.app
  · obtain ⟨rfl, ha⟩ := ha
    have hd : ∀ {i}, decodeApp P n arg = some i → decodeFrame P true n arg = i := fun h => by simp [decodeFrame, h]
    iterate 8 right
    rcases decodeApp_cases P n arg with ⟨hn, h⟩ | ⟨hn, h⟩ | ⟨hn, h⟩ | ⟨hn, h⟩ | ⟨hn, h⟩ | ⟨hn, h⟩ | ⟨hn, -⟩
    · exact .inl ⟨rfl, hn, hd h⟩
    · exact .inr (.inl ⟨rfl, hn, hd h⟩)
    · exact .inr (.inr (.inl ⟨rfl, hn, hd h⟩))
    · exact .inr (.inr (.inr (.inl ⟨rfl, hn, hd h⟩)))
    · exact .inr (.inr (.inr (.inr (.inl ⟨rfl, hn, hd h⟩))))
    · exact .inr (.inr (.inr (.inr (.inr (.inl ⟨rfl, hn, hd h⟩)))))
    · exact absurd ha hn
  · have hn : p = true → n ∉ P.cmdIndex.app := fun hp hm => ha ⟨hp, hm⟩
    have h : decodeFrame P p n arg = decodeStandard P n arg := by
      cases p
      · rfl
      · rcases decodeApp_cases P n arg with ⟨h, -⟩ | ⟨h, -⟩ | ⟨h, -⟩ | ⟨h, -⟩ | ⟨h, -⟩ | ⟨h, -⟩ | ⟨-, h⟩
        case inr.inr.inr.inr.inr.inr => simp [decodeFrame, h]
        all_goals exact absurd (by simp [CommandIndices.app, h]) (hn rfl)
    rw [h]
    rcases decodeStandard_cases P n arg with h | h | h | h | h | h | h | h | h
    · exact .inl h
    · exact .inr (.inl h)
    · exact .inr (.inr (.inl h))
    · exact .inr (.inr (.inr (.inl h)))
    · exact .inr (.inr (.inr (.inr (.inl h))))
    · exact .inr (.inr (.inr (.inr (.inr (.inl h)))))
    · exact .inr (.inr (.inr (.inr (.inr (.inr (.inl h))))))
    · exact .inr (.inr (.inr (.inr (.inr (.inr (.inr (.inl h)))))))
    · iterate 14 right
      exact ⟨h.1, hn, h.2⟩

end Sys2Proof
end

