-- ==== Sys2Proof/Laws/Memory.lean ====
section
/-! SUPPORT. The laws of the medium's bytes and of the cache: every operation keeps the canonical form, a read after
a write gives the value written, and a write leaves every other place alone. -/

namespace Sys2Proof

/-! ## Sectors -/

theorem Sector.ext_byte {d e : Sector} (h : ∀ k < 512, d.bytes.getD k 0 = e.bytes.getD k 0) : d = e := by
  obtain ⟨d, hd⟩ := d
  obtain ⟨e, he⟩ := e
  have : d = e := List.ext_getElem (by rw [hd, he]) fun k h₁ h₂ => by
    have := h k (by omega)
    simpa [List.getD_eq_getElem?_getD, List.getElem?_eq_getElem h₁, List.getElem?_eq_getElem h₂] using this
  subst this
  rfl

@[simp] theorem Sector.bytes_length (d : Sector) : d.bytes.length = 512 := d.size

theorem Sector.byte_setByte (d : Sector) (k j : Nat) (b : Byte) (hk : k < 512) :
    (d.setByte k b).byte j = if k = j then b else d.byte j := by
  have hd := d.size
  by_cases h : k = j
  · subst h
    simp [Sector.byte, Sector.setByte, List.getD_eq_getElem?_getD, hd, hk]
  · simp [Sector.byte, Sector.setByte, List.getD_eq_getElem?_getD, h]

end Sys2Proof

namespace Sys2Proof.Machine

/-! ## The medium -/

@[simp] theorem Memory.read_nil (a : Nat) : Memory.read [] a = Config.unlistedByte := rfl

theorem Memory.read_of_lt (m : Memory) (a : Nat) (h : ∀ c ∈ m, a < c.1) : m.read a = Config.unlistedByte := by
  induction m with
  | nil => rfl
  | cons c m ih =>
    have hc := h c (by simp)
    simp only [Memory.read, if_neg (Nat.ne_of_gt hc)]
    exact ih fun d hd => h d (by simp [hd])

/-- Every key a write leaves is the written address or an old key. -/
theorem Memory.mem_write {m : Memory} {a : Nat} {b : Byte} {c : Host.Cell} (h : c ∈ m.write a b) :
    c = (a, b) ∨ c ∈ m := by
  induction m with
  | nil =>
    simp only [Memory.write] at h
    split at h <;> simp_all
  | cons d m ih =>
    obtain ⟨k, v⟩ := d
    simp only [Memory.write] at h
    split at h
    · rcases List.mem_cons.1 h with rfl | h
      · simp
      · rcases ih h with h | h <;> simp [h]
    · split at h <;> split at h <;> (simp_all; try tauto)

theorem Memory.write_wf {m : Memory} (h : m.wf) (a : Nat) (b : Byte) : (m.write a b).wf := by
  induction m with
  | nil =>
    simp only [Memory.write]
    split <;> simp_all [Memory.wf]
  | cons d m ih =>
    obtain ⟨k, v⟩ := d
    obtain ⟨hp, hz⟩ := h
    rw [List.pairwise_cons] at hp
    have hm : Memory.wf m := ⟨hp.2, fun c hc => hz c (by simp [hc])⟩
    have hv : v ≠ Config.unlistedByte := hz (k, v) (by simp)
    simp only [Memory.write]
    split
    · rename_i hka
      refine ⟨List.pairwise_cons.2 ⟨fun c hc => ?_, (ih hm).1⟩, fun c hc => ?_⟩
      · rcases Memory.mem_write hc with rfl | hc
        · exact hka
        · exact hp.1 c hc
      · rcases List.mem_cons.1 hc with rfl | hc
        · exact hv
        · exact (ih hm).2 c hc
    · rename_i hka
      have hrest : Memory.wf (if k = a then m else (k, v) :: m) := by
        split
        · exact hm
        · exact ⟨List.pairwise_cons.2 hp, hz⟩
      have hlt : ∀ c ∈ (if k = a then m else (k, v) :: m), a < c.1 := by
        intro c hc
        split at hc
        · next e => exact e ▸ hp.1 c hc
        · next e =>
          rcases List.mem_cons.1 hc with rfl | hc
          · show a < k
            omega
          · have : k < c.1 := hp.1 c hc
            omega
      by_cases hb : b = Config.unlistedByte
      · simpa only [if_pos hb] using hrest
      · simp only [if_neg hb]
        refine ⟨List.pairwise_cons.2 ⟨hlt, hrest.1⟩, fun c hc => ?_⟩
        rcases List.mem_cons.1 hc with rfl | hc
        · exact hb
        · exact hrest.2 c hc

/-- A read after a write: the written byte at its address, the old byte everywhere else. -/
theorem Memory.read_write {m : Memory} (h : m.wf) (a a' : Nat) (b : Byte) :
    (m.write a b).read a' = if a = a' then b else m.read a' := by
  induction m with
  | nil =>
    by_cases hb : b = Config.unlistedByte <;> by_cases ha : a = a' <;> simp [Memory.write, Memory.read, hb, ha]
  | cons d m ih =>
    obtain ⟨k, v⟩ := d
    obtain ⟨hp, hz⟩ := h
    rw [List.pairwise_cons] at hp
    have hm : Memory.wf m := ⟨hp.2, fun c hc => hz c (by simp [hc])⟩
    have hkm : Memory.read m k = Config.unlistedByte := Memory.read_of_lt m k hp.1
    by_cases hka : k < a
    · simp only [Memory.write, if_pos hka, Memory.read, ih hm]
      by_cases hk : k = a'
      · have : a ≠ a' := by omega
        simp [hk, this]
      · simp [hk]
    · have hold : ∀ c, a < k → c = a → Memory.read m c = Config.unlistedByte := fun c hak hc =>
        Memory.read_of_lt m c fun e he => by
          have : k < e.1 := hp.1 e he
          omega
      by_cases hk : k = a
      · subst hk
        by_cases hb : b = Config.unlistedByte <;> by_cases ha : k = a' <;>
          simp_all [Memory.write, Memory.read]
      · have hak : a < k := by omega
        by_cases hb : b = Config.unlistedByte
        · by_cases ha : a = a'
          · subst ha
            simp [Memory.write, Memory.read, hka, hk, hb, hold a hak rfl]
          · simp [Memory.write, Memory.read, hka, hk, hb, ha]
        · by_cases ha : a = a'
          · subst ha
            simp [Memory.write, Memory.read, hka, hb]
          · simp [Memory.write, Memory.read, hka, hk, hb, ha]

theorem Memory.writeBytes_wf {m : Memory} (h : m.wf) (a : Nat) (bs : List Byte) : (m.writeBytes a bs).wf := by
  induction bs generalizing m a with
  | nil => exact h
  | cons b bs ih => exact ih (Memory.write_wf h a b) (a + 1)

theorem Memory.read_writeBytes {m : Memory} (h : m.wf) (a a' : Nat) (bs : List Byte) :
    (m.writeBytes a bs).read a' = if a ≤ a' ∧ a' < a + bs.length then bs.getD (a' - a) 0 else m.read a' := by
  induction bs generalizing m a with
  | nil => simp [Memory.writeBytes]
  | cons b bs ih =>
    rw [Memory.writeBytes, ih (Memory.write_wf h a b), Memory.read_write h]
    by_cases h0 : a = a'
    · subst h0
      simp
    · by_cases h1 : a + 1 ≤ a' ∧ a' < a + 1 + bs.length
      · have h2 : a ≤ a' ∧ a' < a + (b :: bs).length := by simp; omega
        obtain ⟨j, hj⟩ : ∃ j, a' - a = j + 1 := ⟨a' - a - 1, by omega⟩
        rw [if_pos h1, if_pos h2, hj, show a' - (a + 1) = j by omega]
        simp
      · have h2 : ¬(a ≤ a' ∧ a' < a + (b :: bs).length) := by simp; omega
        rw [if_neg h1, if_neg h2, if_neg h0]

theorem Memory.mem_writeBytes {m : Memory} {a : Nat} {bs : List Byte} {c : Host.Cell} (h : c ∈ m.writeBytes a bs) :
    (a ≤ c.1 ∧ c.1 < a + bs.length) ∨ c ∈ m := by
  induction bs generalizing m a with
  | nil => exact .inr h
  | cons b bs ih =>
    rcases ih h with h | h
    · exact .inl (by simp; omega)
    · rcases Memory.mem_write h with rfl | h
      · exact .inl (by simp)
      · exact .inr h

theorem Memory.writeSector_wf {m : Memory} (h : m.wf) (i : Nat) (d : Sector) : (m.writeSector i d).wf :=
  Memory.writeBytes_wf h _ _

/-- A byte after a sector write: the sector's own byte inside it, the old byte outside. -/
theorem Memory.read_writeSector {m : Memory} (h : m.wf) (i a : Nat) (d : Sector) :
    (m.writeSector i d).read a = if a / 512 = i then d.byte (a % 512) else m.read a := by
  rw [Memory.writeSector, Memory.read_writeBytes h, d.size]
  by_cases hi : a / 512 = i
  · rw [if_pos (by omega), if_pos hi, Sector.byte, show a - 512 * i = a % 512 by omega]
  · rw [if_neg (by omega), if_neg hi]

theorem Memory.readSector_byte (m : Memory) (i k : Nat) (hk : k < 512) :
    (m.readSector i).byte k = m.read (512 * i + k) := by
  simp [Memory.readSector, Sector.byte, List.getD_eq_getElem?_getD, hk]

theorem Memory.load_wf (size : Nat) (image : List Host.Cell) : (Memory.load size image).wf := by
  rw [Memory.load]
  have : ∀ (l : List Host.Cell) (m : Memory), m.wf → (l.foldl (fun m c => m.write c.1 c.2) m).wf := by
    intro l
    induction l with
    | nil => exact fun m h => h
    | cons c l ih => exact fun m h => ih _ (Memory.write_wf h _ _)
  exact this _ [] (by simp [Memory.wf])

theorem Memory.mem_load {size : Nat} {image : List Host.Cell} {c : Host.Cell} (h : c ∈ Memory.load size image) :
    c.1 < size := by
  have : ∀ (l : List Host.Cell) (m : Memory), (∀ e ∈ l, e.1 < size) → (∀ e ∈ m, e.1 < size) →
      ∀ e ∈ l.foldl (fun m c => m.write c.1 c.2) m, e.1 < size := by
    intro l
    induction l with
    | nil => exact fun m _ hm => hm
    | cons d l ih =>
      refine fun m hl hm => ih _ (fun e he => hl e (by simp [he])) fun e he => ?_
      rcases Memory.mem_write he with rfl | he
      · exact hl d (by simp)
      · exact hm e he
  exact this _ [] (fun e he => by simpa using (List.mem_filter.1 he).2) (by simp) c h

/-- A byte after cells were stored in order: the last cell at its address, else the old byte. -/
theorem Memory.read_foldl_write (l : List Host.Cell) {m : Memory} (h : m.wf) (a : Nat) :
    (l.foldl (fun m c => m.write c.1 c.2) m).read a =
      ((l.filter fun c => c.1 = a).getLast?.map Prod.snd).getD (m.read a) := by
  induction l generalizing m with
  | nil => rfl
  | cons c l ih =>
    rw [List.foldl_cons, ih (Memory.write_wf h _ _), Memory.read_write h]
    by_cases hc : c.1 = a
    · cases hl : (l.filter fun c => c.1 = a).getLast? <;> simp [hc, hl, List.getLast?_cons]
    · simp [hc]

/-- A byte of a medium as bind opens it: the last cell of the image at its address, inside the sector space. -/
theorem Memory.read_load (size : Nat) (image : List Host.Cell) (a : Nat) :
    (Memory.load size image).read a =
      if a < size then ((image.filter fun c => c.1 = a).getLast?.map Prod.snd).getD Config.unlistedByte
      else Config.unlistedByte := by
  rw [Memory.load, Memory.read_foldl_write _ (by simp [Memory.wf]), List.filter_filter]
  by_cases ha : a < size
  · rw [if_pos ha]
    have : (fun c : Host.Cell => decide (c.1 = a) && decide (c.1 < size)) = fun c => decide (c.1 = a) := by
      funext c
      by_cases hc : c.1 = a <;> simp [hc, ha]
    rw [this]; rfl
  · rw [if_neg ha]
    have : (fun c : Host.Cell => decide (c.1 = a) && decide (c.1 < size)) = fun _ => false := by
      funext c
      by_cases hc : c.1 = a <;> simp [hc, ha]
    rw [this]; simp

/-- The memory of the power-on state is canonical. -/
theorem State.reset_medium_wf : State.reset.medium.wf := by simp [State.reset, Memory.wf]

/-! ## The cache -/

@[simp] theorem Cache.find_nil (i : Nat) : Cache.find [] i = none := rfl

theorem Cache.find_of_lt (c : Cache) (i : Nat) (h : ∀ e ∈ c, i < e.1) : c.find i = none := by
  induction c with
  | nil => rfl
  | cons e c ih =>
    have he := h e (by simp)
    simp only [Cache.find, if_neg (Nat.ne_of_gt he)]
    exact ih fun f hf => h f (by simp [hf])

theorem Cache.mem_put {c : Cache} {i : Nat} {d : Sector} {e : Nat × Sector} (h : e ∈ c.put i d) :
    e = (i, d) ∨ e ∈ c := by
  induction c with
  | nil => simpa [Cache.put] using h
  | cons f c ih =>
    obtain ⟨k, v⟩ := f
    simp only [Cache.put] at h
    split at h
    · rcases List.mem_cons.1 h with rfl | h
      · simp
      · rcases ih h with h | h <;> simp [h]
    · split at h <;> (simp_all; try tauto)

theorem Cache.put_wf {c : Cache} (h : c.wf) (i : Nat) (d : Sector) : (c.put i d).wf := by
  induction c with
  | nil => simp [Cache.put, Cache.wf]
  | cons f c ih =>
    obtain ⟨k, v⟩ := f
    have hp := List.pairwise_cons.1 h
    simp only [Cache.put]
    split
    · next hk =>
      refine List.pairwise_cons.2 ⟨fun e he => ?_, ih hp.2⟩
      rcases Cache.mem_put he with rfl | he
      · exact hk
      · exact hp.1 e he
    · next hk =>
      split
      · next e => exact List.pairwise_cons.2 ⟨fun f hf => e ▸ hp.1 f hf, hp.2⟩
      · next hne =>
        refine List.pairwise_cons.2 ⟨fun f hf => ?_, h⟩
        rcases List.mem_cons.1 hf with rfl | hf
        · show i < k
          omega
        · have : k < f.1 := hp.1 f hf
          show i < f.1
          omega

/-- A lookup after a put: the new data at its sector, the old entry everywhere else. -/
theorem Cache.find_put {c : Cache} (h : c.wf) (i j : Nat) (d : Sector) :
    (c.put i d).find j = if i = j then some d else c.find j := by
  induction c with
  | nil => simp [Cache.put, Cache.find]
  | cons f c ih =>
    obtain ⟨k, v⟩ := f
    have hp := List.pairwise_cons.1 h
    by_cases hk : k < i
    · simp only [Cache.put, if_pos hk, Cache.find, ih hp.2]
      by_cases hj : k = j
      · have : i ≠ j := by omega
        simp [hj, this]
      · simp [hj]
    · by_cases he : k = i
      · subst he
        by_cases hj : k = j <;> simp [Cache.put, Cache.find, hj]
      · by_cases hj : i = j
        · subst hj
          simp [Cache.put, Cache.find, hk]
        · simp [Cache.put, Cache.find, hk, he, hj]

theorem Cache.put_ne_nil (c : Cache) (i : Nat) (d : Sector) : c.put i d ≠ [] := by
  cases c with
  | nil => simp [Cache.put]
  | cons f c =>
    simp only [Cache.put]
    split <;> simp

theorem Cache.filter_wf {c : Cache} (h : c.wf) (p : Nat × Sector → Bool) : Cache.wf (c.filter p) :=
  List.Pairwise.filter p h

/-- A lookup after dropping entries by their sector. -/
theorem Cache.find_filter (c : Cache) (p : Nat → Bool) (i : Nat) :
    Cache.find (c.filter fun e => p e.1) i = if p i then c.find i else none := by
  induction c with
  | nil => simp [Cache.find]
  | cons f c ih =>
    obtain ⟨k, v⟩ := f
    by_cases hk : p k <;> by_cases hi : k = i <;> simp_all [Cache.find]

theorem Cache.flushInto_wf (c : Cache) {m : Memory} (h : m.wf) : (c.flushInto m).wf := by
  induction c generalizing m with
  | nil => exact h
  | cons e c ih => exact ih (Memory.writeSector_wf h _ _)

/-- A byte of the medium after cache entries were written to it: the entry's byte where there is one. -/
theorem Cache.read_flushInto {c : Cache} (hc : c.wf) {m : Memory} (h : m.wf) (a : Nat) :
    (c.flushInto m).read a = match c.find (a / 512) with
      | some d => d.byte (a % 512)
      | none => m.read a := by
  induction c generalizing m with
  | nil => simp [Cache.flushInto]
  | cons e c ih =>
    obtain ⟨k, v⟩ := e
    have hp := List.pairwise_cons.1 hc
    have := ih hp.2 (Memory.writeSector_wf h k v)
    simp only [Cache.flushInto, List.foldl_cons] at this ⊢
    rw [this, Memory.read_writeSector h]
    by_cases hk : k = a / 512
    · rw [Cache.find_of_lt c (a / 512) fun f hf => hk ▸ hp.1 f hf]
      simp [Cache.find, hk]
    · have : a / 512 ≠ k := fun e => hk e.symm
      simp [Cache.find, hk, this]

theorem Cache.mem_flushInto {c : Cache} {m : Memory} {n : Nat} (hc : ∀ e ∈ c, e.1 < n)
    (hm : ∀ x ∈ m, x.1 < 512 * n) : ∀ x ∈ c.flushInto m, x.1 < 512 * n := by
  induction c generalizing m with
  | nil => exact hm
  | cons e c ih =>
    refine ih (fun f hf => hc f (by simp [hf])) fun x hx => ?_
    have he := hc e (by simp)
    rcases Memory.mem_writeBytes hx with h | h
    · rw [e.2.size] at h
      omega
    · exact hm x h

/-! ## The sector space -/

/-- Byte `k` of a sector's data is the byte at its address (20_memory.md R62, R64). -/
theorem State.sectorData_byte (s : State) (i k : Nat) (hk : k < 512) :
    (s.sectorData i).byte k = s.byteAt (512 * i + k) := by
  have h1 : (512 * i + k) / 512 = i := by omega
  have h2 : (512 * i + k) % 512 = k := by omega
  rw [State.sectorData, State.byteAt, h1, h2]
  cases s.cache.find i with
  | none => exact Memory.readSector_byte _ _ _ hk
  | some d => rfl

end Sys2Proof.Machine
end

