-- ==== Sys2Proof/Laws/State.lean ====
section
/-! SUPPORT. One lemma per field per update of the state, each true by unfolding, so that no later proof unfolds a
record update. -/

namespace Sys2Proof.Machine

/-! ## clearTransient -/

section
variable (s : State)

@[simp] theorem State.clearTransient_params : (s.clearTransient).params = s.params := rfl
@[simp] theorem State.clearTransient_bound : (s.clearTransient).bound = s.bound := rfl
@[simp] theorem State.clearTransient_phase : (s.clearTransient).phase = s.phase := rfl
@[simp] theorem State.clearTransient_status : (s.clearTransient).status =
    s.status &&& ~~~(s.params.r1Illegal ||| s.params.r1Param) := rfl
@[simp] theorem State.clearTransient_currentCommand : (s.clearTransient).currentCommand = s.currentCommand := rfl
@[simp] theorem State.clearTransient_argument : (s.clearTransient).argument = s.argument := rfl
@[simp] theorem State.clearTransient_responseQueue : (s.clearTransient).responseQueue = s.responseQueue := rfl
@[simp] theorem State.clearTransient_writePayload : (s.clearTransient).writePayload = s.writePayload := rfl
@[simp] theorem State.clearTransient_payloadCount : (s.clearTransient).payloadCount = s.payloadCount := rfl
@[simp] theorem State.clearTransient_cmd8Seen : (s.clearTransient).cmd8Seen = s.cmd8Seen := rfl
@[simp] theorem State.clearTransient_cmd55Seen : (s.clearTransient).cmd55Seen = s.cmd55Seen := rfl
@[simp] theorem State.clearTransient_capacityField : (s.clearTransient).capacityField = s.capacityField := rfl
@[simp] theorem State.clearTransient_totalSectors : (s.clearTransient).totalSectors = s.totalSectors := rfl
@[simp] theorem State.clearTransient_medium : (s.clearTransient).medium = s.medium := rfl
@[simp] theorem State.clearTransient_cache : (s.clearTransient).cache = s.cache := rfl
@[simp] theorem State.clearTransient_inputs : (s.clearTransient).inputs = s.inputs := rfl
@[simp] theorem State.clearTransient_draw : (s.clearTransient).draw = s.draw := rfl
@[simp] theorem State.clearTransient_reply : (s.clearTransient).reply = s.reply := rfl

end

/-! ## setIllegal -/

section
variable (s : State)

@[simp] theorem State.setIllegal_params : (s.setIllegal).params = s.params := rfl
@[simp] theorem State.setIllegal_bound : (s.setIllegal).bound = s.bound := rfl
@[simp] theorem State.setIllegal_phase : (s.setIllegal).phase = s.phase := rfl
@[simp] theorem State.setIllegal_status : (s.setIllegal).status = s.status ||| s.params.r1Illegal := rfl
@[simp] theorem State.setIllegal_currentCommand : (s.setIllegal).currentCommand = s.currentCommand := rfl
@[simp] theorem State.setIllegal_argument : (s.setIllegal).argument = s.argument := rfl
@[simp] theorem State.setIllegal_responseQueue : (s.setIllegal).responseQueue = s.responseQueue := rfl
@[simp] theorem State.setIllegal_writePayload : (s.setIllegal).writePayload = s.writePayload := rfl
@[simp] theorem State.setIllegal_payloadCount : (s.setIllegal).payloadCount = s.payloadCount := rfl
@[simp] theorem State.setIllegal_cmd8Seen : (s.setIllegal).cmd8Seen = s.cmd8Seen := rfl
@[simp] theorem State.setIllegal_cmd55Seen : (s.setIllegal).cmd55Seen = s.cmd55Seen := rfl
@[simp] theorem State.setIllegal_capacityField : (s.setIllegal).capacityField = s.capacityField := rfl
@[simp] theorem State.setIllegal_totalSectors : (s.setIllegal).totalSectors = s.totalSectors := rfl
@[simp] theorem State.setIllegal_medium : (s.setIllegal).medium = s.medium := rfl
@[simp] theorem State.setIllegal_cache : (s.setIllegal).cache = s.cache := rfl
@[simp] theorem State.setIllegal_inputs : (s.setIllegal).inputs = s.inputs := rfl
@[simp] theorem State.setIllegal_draw : (s.setIllegal).draw = s.draw := rfl
@[simp] theorem State.setIllegal_reply : (s.setIllegal).reply = s.reply := rfl

end

/-! ## setParameter -/

section
variable (s : State)

@[simp] theorem State.setParameter_params : (s.setParameter).params = s.params := rfl
@[simp] theorem State.setParameter_bound : (s.setParameter).bound = s.bound := rfl
@[simp] theorem State.setParameter_phase : (s.setParameter).phase = s.phase := rfl
@[simp] theorem State.setParameter_status : (s.setParameter).status = s.status ||| s.params.r1Param := rfl
@[simp] theorem State.setParameter_currentCommand : (s.setParameter).currentCommand = s.currentCommand := rfl
@[simp] theorem State.setParameter_argument : (s.setParameter).argument = s.argument := rfl
@[simp] theorem State.setParameter_responseQueue : (s.setParameter).responseQueue = s.responseQueue := rfl
@[simp] theorem State.setParameter_writePayload : (s.setParameter).writePayload = s.writePayload := rfl
@[simp] theorem State.setParameter_payloadCount : (s.setParameter).payloadCount = s.payloadCount := rfl
@[simp] theorem State.setParameter_cmd8Seen : (s.setParameter).cmd8Seen = s.cmd8Seen := rfl
@[simp] theorem State.setParameter_cmd55Seen : (s.setParameter).cmd55Seen = s.cmd55Seen := rfl
@[simp] theorem State.setParameter_capacityField : (s.setParameter).capacityField = s.capacityField := rfl
@[simp] theorem State.setParameter_totalSectors : (s.setParameter).totalSectors = s.totalSectors := rfl
@[simp] theorem State.setParameter_medium : (s.setParameter).medium = s.medium := rfl
@[simp] theorem State.setParameter_cache : (s.setParameter).cache = s.cache := rfl
@[simp] theorem State.setParameter_inputs : (s.setParameter).inputs = s.inputs := rfl
@[simp] theorem State.setParameter_draw : (s.setParameter).draw = s.draw := rfl
@[simp] theorem State.setParameter_reply : (s.setParameter).reply = s.reply := rfl

end

/-! ## setIdleOnly -/

section
variable (s : State)

@[simp] theorem State.setIdleOnly_params : (s.setIdleOnly).params = s.params := rfl
@[simp] theorem State.setIdleOnly_bound : (s.setIdleOnly).bound = s.bound := rfl
@[simp] theorem State.setIdleOnly_phase : (s.setIdleOnly).phase = s.phase := rfl
@[simp] theorem State.setIdleOnly_status : (s.setIdleOnly).status = Config.inIdle := rfl
@[simp] theorem State.setIdleOnly_currentCommand : (s.setIdleOnly).currentCommand = s.currentCommand := rfl
@[simp] theorem State.setIdleOnly_argument : (s.setIdleOnly).argument = s.argument := rfl
@[simp] theorem State.setIdleOnly_responseQueue : (s.setIdleOnly).responseQueue = s.responseQueue := rfl
@[simp] theorem State.setIdleOnly_writePayload : (s.setIdleOnly).writePayload = s.writePayload := rfl
@[simp] theorem State.setIdleOnly_payloadCount : (s.setIdleOnly).payloadCount = s.payloadCount := rfl
@[simp] theorem State.setIdleOnly_cmd8Seen : (s.setIdleOnly).cmd8Seen = s.cmd8Seen := rfl
@[simp] theorem State.setIdleOnly_cmd55Seen : (s.setIdleOnly).cmd55Seen = s.cmd55Seen := rfl
@[simp] theorem State.setIdleOnly_capacityField : (s.setIdleOnly).capacityField = s.capacityField := rfl
@[simp] theorem State.setIdleOnly_totalSectors : (s.setIdleOnly).totalSectors = s.totalSectors := rfl
@[simp] theorem State.setIdleOnly_medium : (s.setIdleOnly).medium = s.medium := rfl
@[simp] theorem State.setIdleOnly_cache : (s.setIdleOnly).cache = s.cache := rfl
@[simp] theorem State.setIdleOnly_inputs : (s.setIdleOnly).inputs = s.inputs := rfl
@[simp] theorem State.setIdleOnly_draw : (s.setIdleOnly).draw = s.draw := rfl
@[simp] theorem State.setIdleOnly_reply : (s.setIdleOnly).reply = s.reply := rfl

end

/-! ## leaveIdle -/

section
variable (s : State)

@[simp] theorem State.leaveIdle_params : (s.leaveIdle).params = s.params := rfl
@[simp] theorem State.leaveIdle_bound : (s.leaveIdle).bound = s.bound := rfl
@[simp] theorem State.leaveIdle_phase : (s.leaveIdle).phase = s.phase := rfl
@[simp] theorem State.leaveIdle_status : (s.leaveIdle).status = s.status &&& ~~~Config.inIdle := rfl
@[simp] theorem State.leaveIdle_currentCommand : (s.leaveIdle).currentCommand = s.currentCommand := rfl
@[simp] theorem State.leaveIdle_argument : (s.leaveIdle).argument = s.argument := rfl
@[simp] theorem State.leaveIdle_responseQueue : (s.leaveIdle).responseQueue = s.responseQueue := rfl
@[simp] theorem State.leaveIdle_writePayload : (s.leaveIdle).writePayload = s.writePayload := rfl
@[simp] theorem State.leaveIdle_payloadCount : (s.leaveIdle).payloadCount = s.payloadCount := rfl
@[simp] theorem State.leaveIdle_cmd8Seen : (s.leaveIdle).cmd8Seen = s.cmd8Seen := rfl
@[simp] theorem State.leaveIdle_cmd55Seen : (s.leaveIdle).cmd55Seen = s.cmd55Seen := rfl
@[simp] theorem State.leaveIdle_capacityField : (s.leaveIdle).capacityField = s.capacityField := rfl
@[simp] theorem State.leaveIdle_totalSectors : (s.leaveIdle).totalSectors = s.totalSectors := rfl
@[simp] theorem State.leaveIdle_medium : (s.leaveIdle).medium = s.medium := rfl
@[simp] theorem State.leaveIdle_cache : (s.leaveIdle).cache = s.cache := rfl
@[simp] theorem State.leaveIdle_inputs : (s.leaveIdle).inputs = s.inputs := rfl
@[simp] theorem State.leaveIdle_draw : (s.leaveIdle).draw = s.draw := rfl
@[simp] theorem State.leaveIdle_reply : (s.leaveIdle).reply = s.reply := rfl

end

/-! ## respond -/

section
variable (s : State) (q : List Byte)

@[simp] theorem State.respond_params : (s.respond q).params = s.params := rfl
@[simp] theorem State.respond_bound : (s.respond q).bound = s.bound := rfl
@[simp] theorem State.respond_phase : (s.respond q).phase = s.phase := rfl
@[simp] theorem State.respond_status : (s.respond q).status = s.status := rfl
@[simp] theorem State.respond_currentCommand : (s.respond q).currentCommand = s.currentCommand := rfl
@[simp] theorem State.respond_argument : (s.respond q).argument = s.argument := rfl
@[simp] theorem State.respond_responseQueue : (s.respond q).responseQueue = q := rfl
@[simp] theorem State.respond_writePayload : (s.respond q).writePayload = s.writePayload := rfl
@[simp] theorem State.respond_payloadCount : (s.respond q).payloadCount = s.payloadCount := rfl
@[simp] theorem State.respond_cmd8Seen : (s.respond q).cmd8Seen = s.cmd8Seen := rfl
@[simp] theorem State.respond_cmd55Seen : (s.respond q).cmd55Seen = s.cmd55Seen := rfl
@[simp] theorem State.respond_capacityField : (s.respond q).capacityField = s.capacityField := rfl
@[simp] theorem State.respond_totalSectors : (s.respond q).totalSectors = s.totalSectors := rfl
@[simp] theorem State.respond_medium : (s.respond q).medium = s.medium := rfl
@[simp] theorem State.respond_cache : (s.respond q).cache = s.cache := rfl
@[simp] theorem State.respond_inputs : (s.respond q).inputs = s.inputs := rfl
@[simp] theorem State.respond_draw : (s.respond q).draw = s.draw := rfl
@[simp] theorem State.respond_reply : (s.respond q).reply = s.reply := rfl

end

/-! ## respondStatus -/

section
variable (s : State)

@[simp] theorem State.respondStatus_params : (s.respondStatus).params = s.params := rfl
@[simp] theorem State.respondStatus_bound : (s.respondStatus).bound = s.bound := rfl
@[simp] theorem State.respondStatus_phase : (s.respondStatus).phase = s.phase := rfl
@[simp] theorem State.respondStatus_status : (s.respondStatus).status = s.status := rfl
@[simp] theorem State.respondStatus_currentCommand : (s.respondStatus).currentCommand = s.currentCommand := rfl
@[simp] theorem State.respondStatus_argument : (s.respondStatus).argument = s.argument := rfl
@[simp] theorem State.respondStatus_responseQueue : (s.respondStatus).responseQueue = [s.status] := rfl
@[simp] theorem State.respondStatus_writePayload : (s.respondStatus).writePayload = s.writePayload := rfl
@[simp] theorem State.respondStatus_payloadCount : (s.respondStatus).payloadCount = s.payloadCount := rfl
@[simp] theorem State.respondStatus_cmd8Seen : (s.respondStatus).cmd8Seen = s.cmd8Seen := rfl
@[simp] theorem State.respondStatus_cmd55Seen : (s.respondStatus).cmd55Seen = s.cmd55Seen := rfl
@[simp] theorem State.respondStatus_capacityField : (s.respondStatus).capacityField = s.capacityField := rfl
@[simp] theorem State.respondStatus_totalSectors : (s.respondStatus).totalSectors = s.totalSectors := rfl
@[simp] theorem State.respondStatus_medium : (s.respondStatus).medium = s.medium := rfl
@[simp] theorem State.respondStatus_cache : (s.respondStatus).cache = s.cache := rfl
@[simp] theorem State.respondStatus_inputs : (s.respondStatus).inputs = s.inputs := rfl
@[simp] theorem State.respondStatus_draw : (s.respondStatus).draw = s.draw := rfl
@[simp] theorem State.respondStatus_reply : (s.respondStatus).reply = s.reply := rfl

end

/-! ## rejectCommand -/

section
variable (s : State)

@[simp] theorem State.rejectCommand_params : (s.rejectCommand).params = s.params := rfl
@[simp] theorem State.rejectCommand_bound : (s.rejectCommand).bound = s.bound := rfl
@[simp] theorem State.rejectCommand_phase : (s.rejectCommand).phase = s.phase := rfl
@[simp] theorem State.rejectCommand_status : (s.rejectCommand).status = s.status ||| s.params.r1Illegal := rfl
@[simp] theorem State.rejectCommand_currentCommand : (s.rejectCommand).currentCommand = s.currentCommand := rfl
@[simp] theorem State.rejectCommand_argument : (s.rejectCommand).argument = s.argument := rfl
@[simp] theorem State.rejectCommand_responseQueue : (s.rejectCommand).responseQueue =
    [s.status ||| s.params.r1Illegal] := rfl
@[simp] theorem State.rejectCommand_writePayload : (s.rejectCommand).writePayload = s.writePayload := rfl
@[simp] theorem State.rejectCommand_payloadCount : (s.rejectCommand).payloadCount = s.payloadCount := rfl
@[simp] theorem State.rejectCommand_cmd8Seen : (s.rejectCommand).cmd8Seen = s.cmd8Seen := rfl
@[simp] theorem State.rejectCommand_cmd55Seen : (s.rejectCommand).cmd55Seen = s.cmd55Seen := rfl
@[simp] theorem State.rejectCommand_capacityField : (s.rejectCommand).capacityField = s.capacityField := rfl
@[simp] theorem State.rejectCommand_totalSectors : (s.rejectCommand).totalSectors = s.totalSectors := rfl
@[simp] theorem State.rejectCommand_medium : (s.rejectCommand).medium = s.medium := rfl
@[simp] theorem State.rejectCommand_cache : (s.rejectCommand).cache = s.cache := rfl
@[simp] theorem State.rejectCommand_inputs : (s.rejectCommand).inputs = s.inputs := rfl
@[simp] theorem State.rejectCommand_draw : (s.rejectCommand).draw = s.draw := rfl
@[simp] theorem State.rejectCommand_reply : (s.rejectCommand).reply = s.reply := rfl

end

/-! ## rejectRange -/

section
variable (s : State)

@[simp] theorem State.rejectRange_params : (s.rejectRange).params = s.params := rfl
@[simp] theorem State.rejectRange_bound : (s.rejectRange).bound = s.bound := rfl
@[simp] theorem State.rejectRange_phase : (s.rejectRange).phase = s.phase := rfl
@[simp] theorem State.rejectRange_status : (s.rejectRange).status = s.status ||| s.params.r1Param := rfl
@[simp] theorem State.rejectRange_currentCommand : (s.rejectRange).currentCommand = s.currentCommand := rfl
@[simp] theorem State.rejectRange_argument : (s.rejectRange).argument = s.argument := rfl
@[simp] theorem State.rejectRange_responseQueue : (s.rejectRange).responseQueue = [s.status ||| s.params.r1Param] := rfl
@[simp] theorem State.rejectRange_writePayload : (s.rejectRange).writePayload = s.writePayload := rfl
@[simp] theorem State.rejectRange_payloadCount : (s.rejectRange).payloadCount = s.payloadCount := rfl
@[simp] theorem State.rejectRange_cmd8Seen : (s.rejectRange).cmd8Seen = s.cmd8Seen := rfl
@[simp] theorem State.rejectRange_cmd55Seen : (s.rejectRange).cmd55Seen = s.cmd55Seen := rfl
@[simp] theorem State.rejectRange_capacityField : (s.rejectRange).capacityField = s.capacityField := rfl
@[simp] theorem State.rejectRange_totalSectors : (s.rejectRange).totalSectors = s.totalSectors := rfl
@[simp] theorem State.rejectRange_medium : (s.rejectRange).medium = s.medium := rfl
@[simp] theorem State.rejectRange_cache : (s.rejectRange).cache = s.cache := rfl
@[simp] theorem State.rejectRange_inputs : (s.rejectRange).inputs = s.inputs := rfl
@[simp] theorem State.rejectRange_draw : (s.rejectRange).draw = s.draw := rfl
@[simp] theorem State.rejectRange_reply : (s.rejectRange).reply = s.reply := rfl

end

/-! ## toPhase -/

section
variable (s : State) (p : Phase)

@[simp] theorem State.toPhase_params : (s.toPhase p).params = s.params := rfl
@[simp] theorem State.toPhase_bound : (s.toPhase p).bound = s.bound := rfl
@[simp] theorem State.toPhase_phase : (s.toPhase p).phase = p := rfl
@[simp] theorem State.toPhase_status : (s.toPhase p).status = s.status := rfl
@[simp] theorem State.toPhase_currentCommand : (s.toPhase p).currentCommand = s.currentCommand := rfl
@[simp] theorem State.toPhase_argument : (s.toPhase p).argument = s.argument := rfl
@[simp] theorem State.toPhase_responseQueue : (s.toPhase p).responseQueue = s.responseQueue := rfl
@[simp] theorem State.toPhase_writePayload : (s.toPhase p).writePayload = s.writePayload := rfl
@[simp] theorem State.toPhase_payloadCount : (s.toPhase p).payloadCount = s.payloadCount := rfl
@[simp] theorem State.toPhase_cmd8Seen : (s.toPhase p).cmd8Seen = s.cmd8Seen := rfl
@[simp] theorem State.toPhase_cmd55Seen : (s.toPhase p).cmd55Seen = s.cmd55Seen := rfl
@[simp] theorem State.toPhase_capacityField : (s.toPhase p).capacityField = s.capacityField := rfl
@[simp] theorem State.toPhase_totalSectors : (s.toPhase p).totalSectors = s.totalSectors := rfl
@[simp] theorem State.toPhase_medium : (s.toPhase p).medium = s.medium := rfl
@[simp] theorem State.toPhase_cache : (s.toPhase p).cache = s.cache := rfl
@[simp] theorem State.toPhase_inputs : (s.toPhase p).inputs = s.inputs := rfl
@[simp] theorem State.toPhase_draw : (s.toPhase p).draw = s.draw := rfl
@[simp] theorem State.toPhase_reply : (s.toPhase p).reply = s.reply := rfl

end

/-! ## setCmd8Seen -/

section
variable (s : State) (v : Bool)

@[simp] theorem State.setCmd8Seen_params : (s.setCmd8Seen v).params = s.params := rfl
@[simp] theorem State.setCmd8Seen_bound : (s.setCmd8Seen v).bound = s.bound := rfl
@[simp] theorem State.setCmd8Seen_phase : (s.setCmd8Seen v).phase = s.phase := rfl
@[simp] theorem State.setCmd8Seen_status : (s.setCmd8Seen v).status = s.status := rfl
@[simp] theorem State.setCmd8Seen_currentCommand : (s.setCmd8Seen v).currentCommand = s.currentCommand := rfl
@[simp] theorem State.setCmd8Seen_argument : (s.setCmd8Seen v).argument = s.argument := rfl
@[simp] theorem State.setCmd8Seen_responseQueue : (s.setCmd8Seen v).responseQueue = s.responseQueue := rfl
@[simp] theorem State.setCmd8Seen_writePayload : (s.setCmd8Seen v).writePayload = s.writePayload := rfl
@[simp] theorem State.setCmd8Seen_payloadCount : (s.setCmd8Seen v).payloadCount = s.payloadCount := rfl
@[simp] theorem State.setCmd8Seen_cmd8Seen : (s.setCmd8Seen v).cmd8Seen = v := rfl
@[simp] theorem State.setCmd8Seen_cmd55Seen : (s.setCmd8Seen v).cmd55Seen = s.cmd55Seen := rfl
@[simp] theorem State.setCmd8Seen_capacityField : (s.setCmd8Seen v).capacityField = s.capacityField := rfl
@[simp] theorem State.setCmd8Seen_totalSectors : (s.setCmd8Seen v).totalSectors = s.totalSectors := rfl
@[simp] theorem State.setCmd8Seen_medium : (s.setCmd8Seen v).medium = s.medium := rfl
@[simp] theorem State.setCmd8Seen_cache : (s.setCmd8Seen v).cache = s.cache := rfl
@[simp] theorem State.setCmd8Seen_inputs : (s.setCmd8Seen v).inputs = s.inputs := rfl
@[simp] theorem State.setCmd8Seen_draw : (s.setCmd8Seen v).draw = s.draw := rfl
@[simp] theorem State.setCmd8Seen_reply : (s.setCmd8Seen v).reply = s.reply := rfl

end

/-! ## setCmd55Seen -/

section
variable (s : State) (v : Bool)

@[simp] theorem State.setCmd55Seen_params : (s.setCmd55Seen v).params = s.params := rfl
@[simp] theorem State.setCmd55Seen_bound : (s.setCmd55Seen v).bound = s.bound := rfl
@[simp] theorem State.setCmd55Seen_phase : (s.setCmd55Seen v).phase = s.phase := rfl
@[simp] theorem State.setCmd55Seen_status : (s.setCmd55Seen v).status = s.status := rfl
@[simp] theorem State.setCmd55Seen_currentCommand : (s.setCmd55Seen v).currentCommand = s.currentCommand := rfl
@[simp] theorem State.setCmd55Seen_argument : (s.setCmd55Seen v).argument = s.argument := rfl
@[simp] theorem State.setCmd55Seen_responseQueue : (s.setCmd55Seen v).responseQueue = s.responseQueue := rfl
@[simp] theorem State.setCmd55Seen_writePayload : (s.setCmd55Seen v).writePayload = s.writePayload := rfl
@[simp] theorem State.setCmd55Seen_payloadCount : (s.setCmd55Seen v).payloadCount = s.payloadCount := rfl
@[simp] theorem State.setCmd55Seen_cmd8Seen : (s.setCmd55Seen v).cmd8Seen = s.cmd8Seen := rfl
@[simp] theorem State.setCmd55Seen_cmd55Seen : (s.setCmd55Seen v).cmd55Seen = v := rfl
@[simp] theorem State.setCmd55Seen_capacityField : (s.setCmd55Seen v).capacityField = s.capacityField := rfl
@[simp] theorem State.setCmd55Seen_totalSectors : (s.setCmd55Seen v).totalSectors = s.totalSectors := rfl
@[simp] theorem State.setCmd55Seen_medium : (s.setCmd55Seen v).medium = s.medium := rfl
@[simp] theorem State.setCmd55Seen_cache : (s.setCmd55Seen v).cache = s.cache := rfl
@[simp] theorem State.setCmd55Seen_inputs : (s.setCmd55Seen v).inputs = s.inputs := rfl
@[simp] theorem State.setCmd55Seen_draw : (s.setCmd55Seen v).draw = s.draw := rfl
@[simp] theorem State.setCmd55Seen_reply : (s.setCmd55Seen v).reply = s.reply := rfl

end

/-! ## latchFrame -/

section
variable (s : State) (n : BitVec 6) (a : Argument)

@[simp] theorem State.latchFrame_params : (s.latchFrame n a).params = s.params := rfl
@[simp] theorem State.latchFrame_bound : (s.latchFrame n a).bound = s.bound := rfl
@[simp] theorem State.latchFrame_phase : (s.latchFrame n a).phase = s.phase := rfl
@[simp] theorem State.latchFrame_status : (s.latchFrame n a).status = s.status := rfl
@[simp] theorem State.latchFrame_currentCommand : (s.latchFrame n a).currentCommand = n := rfl
@[simp] theorem State.latchFrame_argument : (s.latchFrame n a).argument = a := rfl
@[simp] theorem State.latchFrame_responseQueue : (s.latchFrame n a).responseQueue = s.responseQueue := rfl
@[simp] theorem State.latchFrame_writePayload : (s.latchFrame n a).writePayload = s.writePayload := rfl
@[simp] theorem State.latchFrame_payloadCount : (s.latchFrame n a).payloadCount = s.payloadCount := rfl
@[simp] theorem State.latchFrame_cmd8Seen : (s.latchFrame n a).cmd8Seen = s.cmd8Seen := rfl
@[simp] theorem State.latchFrame_cmd55Seen : (s.latchFrame n a).cmd55Seen = s.cmd55Seen := rfl
@[simp] theorem State.latchFrame_capacityField : (s.latchFrame n a).capacityField = s.capacityField := rfl
@[simp] theorem State.latchFrame_totalSectors : (s.latchFrame n a).totalSectors = s.totalSectors := rfl
@[simp] theorem State.latchFrame_medium : (s.latchFrame n a).medium = s.medium := rfl
@[simp] theorem State.latchFrame_cache : (s.latchFrame n a).cache = s.cache := rfl
@[simp] theorem State.latchFrame_inputs : (s.latchFrame n a).inputs = s.inputs := rfl
@[simp] theorem State.latchFrame_draw : (s.latchFrame n a).draw = s.draw := rfl
@[simp] theorem State.latchFrame_reply : (s.latchFrame n a).reply = s.reply := rfl

end

/-! ## latchPayload -/

section
variable (s : State) (p : Sector)

@[simp] theorem State.latchPayload_params : (s.latchPayload p).params = s.params := rfl
@[simp] theorem State.latchPayload_bound : (s.latchPayload p).bound = s.bound := rfl
@[simp] theorem State.latchPayload_phase : (s.latchPayload p).phase = s.phase := rfl
@[simp] theorem State.latchPayload_status : (s.latchPayload p).status = s.status := rfl
@[simp] theorem State.latchPayload_currentCommand : (s.latchPayload p).currentCommand = s.currentCommand := rfl
@[simp] theorem State.latchPayload_argument : (s.latchPayload p).argument = s.argument := rfl
@[simp] theorem State.latchPayload_responseQueue : (s.latchPayload p).responseQueue = s.responseQueue := rfl
@[simp] theorem State.latchPayload_writePayload : (s.latchPayload p).writePayload = p := rfl
@[simp] theorem State.latchPayload_payloadCount : (s.latchPayload p).payloadCount = 512 := rfl
@[simp] theorem State.latchPayload_cmd8Seen : (s.latchPayload p).cmd8Seen = s.cmd8Seen := rfl
@[simp] theorem State.latchPayload_cmd55Seen : (s.latchPayload p).cmd55Seen = s.cmd55Seen := rfl
@[simp] theorem State.latchPayload_capacityField : (s.latchPayload p).capacityField = s.capacityField := rfl
@[simp] theorem State.latchPayload_totalSectors : (s.latchPayload p).totalSectors = s.totalSectors := rfl
@[simp] theorem State.latchPayload_medium : (s.latchPayload p).medium = s.medium := rfl
@[simp] theorem State.latchPayload_cache : (s.latchPayload p).cache = s.cache := rfl
@[simp] theorem State.latchPayload_inputs : (s.latchPayload p).inputs = s.inputs := rfl
@[simp] theorem State.latchPayload_draw : (s.latchPayload p).draw = s.draw := rfl
@[simp] theorem State.latchPayload_reply : (s.latchPayload p).reply = s.reply := rfl

end

/-! ## answer -/

section
variable (s : State) (r : Reply)

@[simp] theorem State.answer_params : (s.answer r).params = s.params := rfl
@[simp] theorem State.answer_bound : (s.answer r).bound = s.bound := rfl
@[simp] theorem State.answer_phase : (s.answer r).phase = s.phase := rfl
@[simp] theorem State.answer_status : (s.answer r).status = s.status := rfl
@[simp] theorem State.answer_currentCommand : (s.answer r).currentCommand = s.currentCommand := rfl
@[simp] theorem State.answer_argument : (s.answer r).argument = s.argument := rfl
@[simp] theorem State.answer_responseQueue : (s.answer r).responseQueue = s.responseQueue := rfl
@[simp] theorem State.answer_writePayload : (s.answer r).writePayload = s.writePayload := rfl
@[simp] theorem State.answer_payloadCount : (s.answer r).payloadCount = s.payloadCount := rfl
@[simp] theorem State.answer_cmd8Seen : (s.answer r).cmd8Seen = s.cmd8Seen := rfl
@[simp] theorem State.answer_cmd55Seen : (s.answer r).cmd55Seen = s.cmd55Seen := rfl
@[simp] theorem State.answer_capacityField : (s.answer r).capacityField = s.capacityField := rfl
@[simp] theorem State.answer_totalSectors : (s.answer r).totalSectors = s.totalSectors := rfl
@[simp] theorem State.answer_medium : (s.answer r).medium = s.medium := rfl
@[simp] theorem State.answer_cache : (s.answer r).cache = s.cache := rfl
@[simp] theorem State.answer_inputs : (s.answer r).inputs = s.inputs := rfl
@[simp] theorem State.answer_draw : (s.answer r).draw = s.draw := rfl
@[simp] theorem State.answer_reply : (s.answer r).reply = r := rfl

end

/-! ## resetBus -/

section
variable (s : State)

@[simp] theorem State.resetBus_params : (s.resetBus).params = s.params := rfl
@[simp] theorem State.resetBus_bound : (s.resetBus).bound = s.bound := rfl
@[simp] theorem State.resetBus_phase : (s.resetBus).phase = .awaitingCommand := rfl
@[simp] theorem State.resetBus_status : (s.resetBus).status = 0 := rfl
@[simp] theorem State.resetBus_currentCommand : (s.resetBus).currentCommand = s.currentCommand := rfl
@[simp] theorem State.resetBus_argument : (s.resetBus).argument = s.argument := rfl
@[simp] theorem State.resetBus_responseQueue : (s.resetBus).responseQueue = [] := rfl
@[simp] theorem State.resetBus_writePayload : (s.resetBus).writePayload = s.draw.unspecPayload := rfl
@[simp] theorem State.resetBus_payloadCount : (s.resetBus).payloadCount = 0 := rfl
@[simp] theorem State.resetBus_cmd8Seen : (s.resetBus).cmd8Seen = false := rfl
@[simp] theorem State.resetBus_cmd55Seen : (s.resetBus).cmd55Seen = false := rfl
@[simp] theorem State.resetBus_capacityField : (s.resetBus).capacityField = s.capacityField := rfl
@[simp] theorem State.resetBus_totalSectors : (s.resetBus).totalSectors = s.totalSectors := rfl
@[simp] theorem State.resetBus_medium : (s.resetBus).medium = s.medium := rfl
@[simp] theorem State.resetBus_cache : (s.resetBus).cache = s.cache := rfl
@[simp] theorem State.resetBus_inputs : (s.resetBus).inputs = s.inputs := rfl
@[simp] theorem State.resetBus_draw : (s.resetBus).draw = s.draw := rfl
@[simp] theorem State.resetBus_reply : (s.resetBus).reply = s.reply := rfl

end

/-! ## storeUnbind -/

section
variable (s : State)

@[simp] theorem State.storeUnbind_params : (s.storeUnbind).params = s.params := rfl
@[simp] theorem State.storeUnbind_bound : (s.storeUnbind).bound = s.bound := rfl
@[simp] theorem State.storeUnbind_phase : (s.storeUnbind).phase = s.phase := rfl
@[simp] theorem State.storeUnbind_status : (s.storeUnbind).status = s.status := rfl
@[simp] theorem State.storeUnbind_currentCommand : (s.storeUnbind).currentCommand = s.currentCommand := rfl
@[simp] theorem State.storeUnbind_argument : (s.storeUnbind).argument = s.argument := rfl
@[simp] theorem State.storeUnbind_responseQueue : (s.storeUnbind).responseQueue = s.responseQueue := rfl
@[simp] theorem State.storeUnbind_writePayload : (s.storeUnbind).writePayload = s.writePayload := rfl
@[simp] theorem State.storeUnbind_payloadCount : (s.storeUnbind).payloadCount = s.payloadCount := rfl
@[simp] theorem State.storeUnbind_cmd8Seen : (s.storeUnbind).cmd8Seen = s.cmd8Seen := rfl
@[simp] theorem State.storeUnbind_cmd55Seen : (s.storeUnbind).cmd55Seen = s.cmd55Seen := rfl
@[simp] theorem State.storeUnbind_capacityField : (s.storeUnbind).capacityField = s.capacityField := rfl
@[simp] theorem State.storeUnbind_totalSectors : (s.storeUnbind).totalSectors = s.totalSectors := rfl
@[simp] theorem State.storeUnbind_medium : (s.storeUnbind).medium = [] := rfl
@[simp] theorem State.storeUnbind_cache : (s.storeUnbind).cache = [] := rfl
@[simp] theorem State.storeUnbind_inputs : (s.storeUnbind).inputs = s.inputs := rfl
@[simp] theorem State.storeUnbind_draw : (s.storeUnbind).draw = s.draw := rfl
@[simp] theorem State.storeUnbind_reply : (s.storeUnbind).reply = s.reply := rfl

end

/-! ## startFrame -/

section
variable (s : State) (b : Byte)

@[simp] theorem State.startFrame_params : (s.startFrame b).params = s.params := rfl
@[simp] theorem State.startFrame_bound : (s.startFrame b).bound = s.bound := rfl
@[simp] theorem State.startFrame_phase : (s.startFrame b).phase = .awaitingArg0 := rfl
@[simp] theorem State.startFrame_status : (s.startFrame b).status = s.status := rfl
@[simp] theorem State.startFrame_currentCommand : (s.startFrame b).currentCommand = commandIndex b := rfl
@[simp] theorem State.startFrame_argument : (s.startFrame b).argument = s.argument := rfl
@[simp] theorem State.startFrame_responseQueue : (s.startFrame b).responseQueue = s.responseQueue := rfl
@[simp] theorem State.startFrame_writePayload : (s.startFrame b).writePayload = s.writePayload := rfl
@[simp] theorem State.startFrame_payloadCount : (s.startFrame b).payloadCount = s.payloadCount := rfl
@[simp] theorem State.startFrame_cmd8Seen : (s.startFrame b).cmd8Seen = s.cmd8Seen := rfl
@[simp] theorem State.startFrame_cmd55Seen : (s.startFrame b).cmd55Seen = s.cmd55Seen := rfl
@[simp] theorem State.startFrame_capacityField : (s.startFrame b).capacityField = s.capacityField := rfl
@[simp] theorem State.startFrame_totalSectors : (s.startFrame b).totalSectors = s.totalSectors := rfl
@[simp] theorem State.startFrame_medium : (s.startFrame b).medium = s.medium := rfl
@[simp] theorem State.startFrame_cache : (s.startFrame b).cache = s.cache := rfl
@[simp] theorem State.startFrame_inputs : (s.startFrame b).inputs = s.inputs := rfl
@[simp] theorem State.startFrame_draw : (s.startFrame b).draw = s.draw := rfl
@[simp] theorem State.startFrame_reply : (s.startFrame b).reply = s.reply := rfl

end

/-! ## captureArg0 -/

section
variable (s : State) (b : Byte)

@[simp] theorem State.captureArg0_params : (s.captureArg0 b).params = s.params := rfl
@[simp] theorem State.captureArg0_bound : (s.captureArg0 b).bound = s.bound := rfl
@[simp] theorem State.captureArg0_phase : (s.captureArg0 b).phase = .awaitingArg1 := rfl
@[simp] theorem State.captureArg0_status : (s.captureArg0 b).status = s.status := rfl
@[simp] theorem State.captureArg0_currentCommand : (s.captureArg0 b).currentCommand = s.currentCommand := rfl
@[simp] theorem State.captureArg0_argument : (s.captureArg0 b).argument = { s.argument with a0 := b } := rfl
@[simp] theorem State.captureArg0_responseQueue : (s.captureArg0 b).responseQueue = s.responseQueue := rfl
@[simp] theorem State.captureArg0_writePayload : (s.captureArg0 b).writePayload = s.writePayload := rfl
@[simp] theorem State.captureArg0_payloadCount : (s.captureArg0 b).payloadCount = s.payloadCount := rfl
@[simp] theorem State.captureArg0_cmd8Seen : (s.captureArg0 b).cmd8Seen = s.cmd8Seen := rfl
@[simp] theorem State.captureArg0_cmd55Seen : (s.captureArg0 b).cmd55Seen = s.cmd55Seen := rfl
@[simp] theorem State.captureArg0_capacityField : (s.captureArg0 b).capacityField = s.capacityField := rfl
@[simp] theorem State.captureArg0_totalSectors : (s.captureArg0 b).totalSectors = s.totalSectors := rfl
@[simp] theorem State.captureArg0_medium : (s.captureArg0 b).medium = s.medium := rfl
@[simp] theorem State.captureArg0_cache : (s.captureArg0 b).cache = s.cache := rfl
@[simp] theorem State.captureArg0_inputs : (s.captureArg0 b).inputs = s.inputs := rfl
@[simp] theorem State.captureArg0_draw : (s.captureArg0 b).draw = s.draw := rfl
@[simp] theorem State.captureArg0_reply : (s.captureArg0 b).reply = s.reply := rfl

end

/-! ## captureArg1 -/

section
variable (s : State) (b : Byte)

@[simp] theorem State.captureArg1_params : (s.captureArg1 b).params = s.params := rfl
@[simp] theorem State.captureArg1_bound : (s.captureArg1 b).bound = s.bound := rfl
@[simp] theorem State.captureArg1_phase : (s.captureArg1 b).phase = .awaitingArg2 := rfl
@[simp] theorem State.captureArg1_status : (s.captureArg1 b).status = s.status := rfl
@[simp] theorem State.captureArg1_currentCommand : (s.captureArg1 b).currentCommand = s.currentCommand := rfl
@[simp] theorem State.captureArg1_argument : (s.captureArg1 b).argument = { s.argument with a1 := b } := rfl
@[simp] theorem State.captureArg1_responseQueue : (s.captureArg1 b).responseQueue = s.responseQueue := rfl
@[simp] theorem State.captureArg1_writePayload : (s.captureArg1 b).writePayload = s.writePayload := rfl
@[simp] theorem State.captureArg1_payloadCount : (s.captureArg1 b).payloadCount = s.payloadCount := rfl
@[simp] theorem State.captureArg1_cmd8Seen : (s.captureArg1 b).cmd8Seen = s.cmd8Seen := rfl
@[simp] theorem State.captureArg1_cmd55Seen : (s.captureArg1 b).cmd55Seen = s.cmd55Seen := rfl
@[simp] theorem State.captureArg1_capacityField : (s.captureArg1 b).capacityField = s.capacityField := rfl
@[simp] theorem State.captureArg1_totalSectors : (s.captureArg1 b).totalSectors = s.totalSectors := rfl
@[simp] theorem State.captureArg1_medium : (s.captureArg1 b).medium = s.medium := rfl
@[simp] theorem State.captureArg1_cache : (s.captureArg1 b).cache = s.cache := rfl
@[simp] theorem State.captureArg1_inputs : (s.captureArg1 b).inputs = s.inputs := rfl
@[simp] theorem State.captureArg1_draw : (s.captureArg1 b).draw = s.draw := rfl
@[simp] theorem State.captureArg1_reply : (s.captureArg1 b).reply = s.reply := rfl

end

/-! ## captureArg2 -/

section
variable (s : State) (b : Byte)

@[simp] theorem State.captureArg2_params : (s.captureArg2 b).params = s.params := rfl
@[simp] theorem State.captureArg2_bound : (s.captureArg2 b).bound = s.bound := rfl
@[simp] theorem State.captureArg2_phase : (s.captureArg2 b).phase = .awaitingArg3 := rfl
@[simp] theorem State.captureArg2_status : (s.captureArg2 b).status = s.status := rfl
@[simp] theorem State.captureArg2_currentCommand : (s.captureArg2 b).currentCommand = s.currentCommand := rfl
@[simp] theorem State.captureArg2_argument : (s.captureArg2 b).argument = { s.argument with a2 := b } := rfl
@[simp] theorem State.captureArg2_responseQueue : (s.captureArg2 b).responseQueue = s.responseQueue := rfl
@[simp] theorem State.captureArg2_writePayload : (s.captureArg2 b).writePayload = s.writePayload := rfl
@[simp] theorem State.captureArg2_payloadCount : (s.captureArg2 b).payloadCount = s.payloadCount := rfl
@[simp] theorem State.captureArg2_cmd8Seen : (s.captureArg2 b).cmd8Seen = s.cmd8Seen := rfl
@[simp] theorem State.captureArg2_cmd55Seen : (s.captureArg2 b).cmd55Seen = s.cmd55Seen := rfl
@[simp] theorem State.captureArg2_capacityField : (s.captureArg2 b).capacityField = s.capacityField := rfl
@[simp] theorem State.captureArg2_totalSectors : (s.captureArg2 b).totalSectors = s.totalSectors := rfl
@[simp] theorem State.captureArg2_medium : (s.captureArg2 b).medium = s.medium := rfl
@[simp] theorem State.captureArg2_cache : (s.captureArg2 b).cache = s.cache := rfl
@[simp] theorem State.captureArg2_inputs : (s.captureArg2 b).inputs = s.inputs := rfl
@[simp] theorem State.captureArg2_draw : (s.captureArg2 b).draw = s.draw := rfl
@[simp] theorem State.captureArg2_reply : (s.captureArg2 b).reply = s.reply := rfl

end

/-! ## captureArg3 -/

section
variable (s : State) (b : Byte)

@[simp] theorem State.captureArg3_params : (s.captureArg3 b).params = s.params := rfl
@[simp] theorem State.captureArg3_bound : (s.captureArg3 b).bound = s.bound := rfl
@[simp] theorem State.captureArg3_phase : (s.captureArg3 b).phase = .awaitingCrc := rfl
@[simp] theorem State.captureArg3_status : (s.captureArg3 b).status = s.status := rfl
@[simp] theorem State.captureArg3_currentCommand : (s.captureArg3 b).currentCommand = s.currentCommand := rfl
@[simp] theorem State.captureArg3_argument : (s.captureArg3 b).argument = { s.argument with a3 := b } := rfl
@[simp] theorem State.captureArg3_responseQueue : (s.captureArg3 b).responseQueue = s.responseQueue := rfl
@[simp] theorem State.captureArg3_writePayload : (s.captureArg3 b).writePayload = s.writePayload := rfl
@[simp] theorem State.captureArg3_payloadCount : (s.captureArg3 b).payloadCount = s.payloadCount := rfl
@[simp] theorem State.captureArg3_cmd8Seen : (s.captureArg3 b).cmd8Seen = s.cmd8Seen := rfl
@[simp] theorem State.captureArg3_cmd55Seen : (s.captureArg3 b).cmd55Seen = s.cmd55Seen := rfl
@[simp] theorem State.captureArg3_capacityField : (s.captureArg3 b).capacityField = s.capacityField := rfl
@[simp] theorem State.captureArg3_totalSectors : (s.captureArg3 b).totalSectors = s.totalSectors := rfl
@[simp] theorem State.captureArg3_medium : (s.captureArg3 b).medium = s.medium := rfl
@[simp] theorem State.captureArg3_cache : (s.captureArg3 b).cache = s.cache := rfl
@[simp] theorem State.captureArg3_inputs : (s.captureArg3 b).inputs = s.inputs := rfl
@[simp] theorem State.captureArg3_draw : (s.captureArg3 b).draw = s.draw := rfl
@[simp] theorem State.captureArg3_reply : (s.captureArg3 b).reply = s.reply := rfl

end

/-! ## receivePayload -/

section
variable (s : State) (b : Byte)

@[simp] theorem State.receivePayload_params : (s.receivePayload b).params = s.params := rfl
@[simp] theorem State.receivePayload_bound : (s.receivePayload b).bound = s.bound := rfl
@[simp] theorem State.receivePayload_phase : (s.receivePayload b).phase =
    if s.payloadCount + 1 = 512 then .awaitingDataCrc1 else s.phase := rfl
@[simp] theorem State.receivePayload_status : (s.receivePayload b).status = s.status := rfl
@[simp] theorem State.receivePayload_currentCommand : (s.receivePayload b).currentCommand = s.currentCommand := rfl
@[simp] theorem State.receivePayload_argument : (s.receivePayload b).argument = s.argument := rfl
@[simp] theorem State.receivePayload_responseQueue : (s.receivePayload b).responseQueue = s.responseQueue := rfl
@[simp] theorem State.receivePayload_writePayload : (s.receivePayload b).writePayload =
    s.writePayload.setByte s.payloadCount b := rfl
@[simp] theorem State.receivePayload_payloadCount : (s.receivePayload b).payloadCount = s.payloadCount + 1 := rfl
@[simp] theorem State.receivePayload_cmd8Seen : (s.receivePayload b).cmd8Seen = s.cmd8Seen := rfl
@[simp] theorem State.receivePayload_cmd55Seen : (s.receivePayload b).cmd55Seen = s.cmd55Seen := rfl
@[simp] theorem State.receivePayload_capacityField : (s.receivePayload b).capacityField = s.capacityField := rfl
@[simp] theorem State.receivePayload_totalSectors : (s.receivePayload b).totalSectors = s.totalSectors := rfl
@[simp] theorem State.receivePayload_medium : (s.receivePayload b).medium = s.medium := rfl
@[simp] theorem State.receivePayload_cache : (s.receivePayload b).cache = s.cache := rfl
@[simp] theorem State.receivePayload_inputs : (s.receivePayload b).inputs = s.inputs := rfl
@[simp] theorem State.receivePayload_draw : (s.receivePayload b).draw = s.draw := rfl
@[simp] theorem State.receivePayload_reply : (s.receivePayload b).reply = s.reply := rfl

end

/-! ## receiveDataCrc1 -/

section
variable (s : State) (b : Byte)

@[simp] theorem State.receiveDataCrc1_params : (s.receiveDataCrc1 b).params = s.params := rfl
@[simp] theorem State.receiveDataCrc1_bound : (s.receiveDataCrc1 b).bound = s.bound := rfl
@[simp] theorem State.receiveDataCrc1_phase : (s.receiveDataCrc1 b).phase = .awaitingDataCrc2 := rfl
@[simp] theorem State.receiveDataCrc1_status : (s.receiveDataCrc1 b).status = s.status := rfl
@[simp] theorem State.receiveDataCrc1_currentCommand : (s.receiveDataCrc1 b).currentCommand = s.currentCommand := rfl
@[simp] theorem State.receiveDataCrc1_argument : (s.receiveDataCrc1 b).argument = s.argument := rfl
@[simp] theorem State.receiveDataCrc1_responseQueue : (s.receiveDataCrc1 b).responseQueue = s.responseQueue := rfl
@[simp] theorem State.receiveDataCrc1_writePayload : (s.receiveDataCrc1 b).writePayload = s.writePayload := rfl
@[simp] theorem State.receiveDataCrc1_payloadCount : (s.receiveDataCrc1 b).payloadCount = s.payloadCount := rfl
@[simp] theorem State.receiveDataCrc1_cmd8Seen : (s.receiveDataCrc1 b).cmd8Seen = s.cmd8Seen := rfl
@[simp] theorem State.receiveDataCrc1_cmd55Seen : (s.receiveDataCrc1 b).cmd55Seen = s.cmd55Seen := rfl
@[simp] theorem State.receiveDataCrc1_capacityField : (s.receiveDataCrc1 b).capacityField = s.capacityField := rfl
@[simp] theorem State.receiveDataCrc1_totalSectors : (s.receiveDataCrc1 b).totalSectors = s.totalSectors := rfl
@[simp] theorem State.receiveDataCrc1_medium : (s.receiveDataCrc1 b).medium = s.medium := rfl
@[simp] theorem State.receiveDataCrc1_cache : (s.receiveDataCrc1 b).cache = s.cache := rfl
@[simp] theorem State.receiveDataCrc1_inputs : (s.receiveDataCrc1 b).inputs = s.inputs := rfl
@[simp] theorem State.receiveDataCrc1_draw : (s.receiveDataCrc1 b).draw = s.draw := rfl
@[simp] theorem State.receiveDataCrc1_reply : (s.receiveDataCrc1 b).reply = s.reply := rfl

end

/-! ## accept -/

section
variable (s : State) (d : Draw) (r : List Input)

@[simp] theorem State.accept_params : (s.accept d r).params = s.params := rfl
@[simp] theorem State.accept_bound : (s.accept d r).bound = s.bound := rfl
@[simp] theorem State.accept_phase : (s.accept d r).phase = s.phase := rfl
@[simp] theorem State.accept_status : (s.accept d r).status = s.status := rfl
@[simp] theorem State.accept_currentCommand : (s.accept d r).currentCommand = s.currentCommand := rfl
@[simp] theorem State.accept_argument : (s.accept d r).argument = s.argument := rfl
@[simp] theorem State.accept_responseQueue : (s.accept d r).responseQueue = s.responseQueue := rfl
@[simp] theorem State.accept_writePayload : (s.accept d r).writePayload = s.writePayload := rfl
@[simp] theorem State.accept_payloadCount : (s.accept d r).payloadCount = s.payloadCount := rfl
@[simp] theorem State.accept_cmd8Seen : (s.accept d r).cmd8Seen = s.cmd8Seen := rfl
@[simp] theorem State.accept_cmd55Seen : (s.accept d r).cmd55Seen = s.cmd55Seen := rfl
@[simp] theorem State.accept_capacityField : (s.accept d r).capacityField = s.capacityField := rfl
@[simp] theorem State.accept_totalSectors : (s.accept d r).totalSectors = s.totalSectors := rfl
@[simp] theorem State.accept_medium : (s.accept d r).medium = s.medium := rfl
@[simp] theorem State.accept_cache : (s.accept d r).cache = s.cache := rfl
@[simp] theorem State.accept_inputs : (s.accept d r).inputs = r := rfl
@[simp] theorem State.accept_draw : (s.accept d r).draw = d := rfl
@[simp] theorem State.accept_reply : (s.accept d r).reply = .nothing := rfl

end

/-! ## withWrite -/

section
variable (s : State) (b : Byte)

@[simp] theorem State.withWrite_params : (s.withWrite b).params = s.params := rfl
@[simp] theorem State.withWrite_bound : (s.withWrite b).bound = s.bound := rfl
@[simp] theorem State.withWrite_phase : (s.withWrite b).phase = s.phase := rfl
@[simp] theorem State.withWrite_status : (s.withWrite b).status = s.status := rfl
@[simp] theorem State.withWrite_currentCommand : (s.withWrite b).currentCommand = s.currentCommand := rfl
@[simp] theorem State.withWrite_argument : (s.withWrite b).argument = s.argument := rfl
@[simp] theorem State.withWrite_responseQueue : (s.withWrite b).responseQueue = s.responseQueue := rfl
@[simp] theorem State.withWrite_writePayload : (s.withWrite b).writePayload = s.writePayload := rfl
@[simp] theorem State.withWrite_payloadCount : (s.withWrite b).payloadCount = s.payloadCount := rfl
@[simp] theorem State.withWrite_cmd8Seen : (s.withWrite b).cmd8Seen = s.cmd8Seen := rfl
@[simp] theorem State.withWrite_cmd55Seen : (s.withWrite b).cmd55Seen = s.cmd55Seen := rfl
@[simp] theorem State.withWrite_capacityField : (s.withWrite b).capacityField = s.capacityField := rfl
@[simp] theorem State.withWrite_totalSectors : (s.withWrite b).totalSectors = s.totalSectors := rfl
@[simp] theorem State.withWrite_medium : (s.withWrite b).medium = s.medium := rfl
@[simp] theorem State.withWrite_cache : (s.withWrite b).cache = s.cache := rfl
@[simp] theorem State.withWrite_inputs : (s.withWrite b).inputs = ⟨.write b, Draw.zero⟩ :: s.inputs := rfl
@[simp] theorem State.withWrite_draw : (s.withWrite b).draw = s.draw := rfl
@[simp] theorem State.withWrite_reply : (s.withWrite b).reply = s.reply := rfl

end

end Sys2Proof.Machine
end

