-- ==== Sys2Proof/Laws/Ops.lean ====
section
/-! SUPPORT. One lemma for each shared operation that says everything it can do. -/

namespace Sys2Proof.Machine

/-! ## Dispatch (42_dispatch.md R170–R176) -/

@[simp] theorem State.dispatch_unbound {s : State} (h : s.bound = false) (n : BitVec 6) (arg : Argument) (p : Phase)
    (f : State → State) : s.dispatch n arg p f = s := by simp [State.dispatch, h]

theorem State.dispatch_bound {s : State} (h : s.bound = true) (n : BitVec 6) (arg : Argument) (p : Phase)
    (f : State → State) :
    s.dispatch n arg p f = (f (((s.latchFrame n arg).clearTransient).setCmd55Seen false)).toPhase p := by
  simp [State.dispatch, h]

/-! ## Range check (20_memory.md R77) -/

theorem State.inRange_iff (s : State) : s.inRange = true ↔ sectorIndex s.argument < s.totalSectors.toNat := by
  simp [State.inRange]

/-- The default place of the host-capacity-support bit, bit 30, is bit 6 of the first argument byte (R63, R93). -/
theorem argval_bit30 (a : Argument) : (argval a).getLsbD 30 = a.a0.getLsbD 6 := by simp [argval]

/-! ## Block transfer (45_block_transfer.md R220–R232) -/

/-- CMD17's handler ends in the range error, the read error or the data block (R221, R222, R223). -/
theorem State.readBlock_cases (s : State) :
    (s.totalSectors.toNat ≤ sectorIndex s.argument ∧ s.readBlock = s.rejectRange) ∨
    (sectorIndex s.argument < s.totalSectors.toNat ∧ s.draw.storeError = true ∧
      s.readBlock = s.respond (readErrorResponse s.status)) ∨
    (sectorIndex s.argument < s.totalSectors.toNat ∧ s.draw.storeError = false ∧
      s.readBlock = s.respond (dataBlock s.status (s.sectorData (sectorIndex s.argument)).bytes)) := by
  by_cases hr : sectorIndex s.argument < s.totalSectors.toNat
  · cases hd : s.draw.storeError <;> simp [State.readBlock, State.storeRead, State.inRange_iff, hr, hd]
  · exact .inl ⟨by omega, by simp [State.readBlock, State.inRange_iff, hr]⟩

/-- The write completion ends in the range error, the failed write or the acknowledged write (R230, R232, R231). -/
theorem State.completeWrite_cases (s : State) :
    (s.totalSectors.toNat ≤ sectorIndex s.argument ∧ s.completeWrite = s.rejectRange) ∨
    (sectorIndex s.argument < s.totalSectors.toNat ∧ s.draw.storeError = true ∧
      s.completeWrite = { s with
        cache := if s.draw.failedWriteLands = true then s.cache.put (sectorIndex s.argument) s.writePayload else s.cache
        responseQueue := writeFailResponse }) ∨
    (sectorIndex s.argument < s.totalSectors.toNat ∧ s.draw.storeError = false ∧
      s.completeWrite = { s with
        cache := s.cache.put (sectorIndex s.argument) s.writePayload
        responseQueue := writeAcceptedResponse }) := by
  by_cases hr : sectorIndex s.argument < s.totalSectors.toNat
  · cases hd : s.draw.storeError <;> cases hl : s.draw.failedWriteLands <;>
      simp [State.completeWrite, State.storeWrite, State.inRange_iff, State.respond, hr, hd, hl]
  · exact .inl ⟨by omega, by simp [State.completeWrite, State.inRange_iff, hr]⟩

/-- A sector's bytes are the bytes of the sector space at its addresses, in order (20_memory.md R62, R64). -/
theorem State.sectorData_bytes (s : State) (i : Nat) :
    (s.sectorData i).bytes = (List.range 512).map fun k => s.byteAt (512 * i + k) := by
  have : s.sectorData i = ⟨(List.range 512).map fun k => s.byteAt (512 * i + k), by simp⟩ :=
    Sector.ext_byte fun k hk => by
      have := State.sectorData_byte s i k hk
      rw [Sector.byte] at this
      rw [this]
      simp [List.getD_eq_getElem?_getD, hk]
  rw [this]

/-! ## The CSD register (30_encoding.md R123, R124) -/

/-- The CSD byte by byte: the template's, but for C_SIZE; its top byte's six bits are zero, as 16 bits fit below. -/
theorem csdRegister_eq (t : Bytes 16) (c : BitVec 16) :
    csdRegister t c = (List.range 16).map fun k =>
      if k = 7 then t.list.getD 7 0 &&& 0xC0
      else if k = 8 then c.extractLsb' 8 8
      else if k = 9 then c.extractLsb' 0 8
      else t.list.getD k 0 := by
  have ht := t.size
  have h₇ : (t.list.getD 7 0 &&& 0xC0) ||| (((c.setWidth 22) >>> 16).setWidth 8 &&& 0x3F) =
      t.list.getD 7 0 &&& 0xC0 := by
    have : ((c.setWidth 22) >>> 16).setWidth 8 = (0 : Byte) := by ext i hi; simp
    simp [this]
  have h₈ : ((c.setWidth 22) >>> 8).setWidth 8 = c.extractLsb' 8 8 := by ext i hi; simp; omega
  have h₉ : (c.setWidth 22).setWidth 8 = c.extractLsb' 0 8 := by ext i hi; simp
  refine List.ext_getElem (by simp [csdRegister, ht]) fun k hk _ => ?_
  have hk : k < 16 := by simpa [csdRegister, ht] using hk
  simp only [csdRegister, h₇, h₈, h₉, List.getElem_set, List.getElem_map, List.getElem_range]
  have hg : t.list.getD k 0 = t.list[k]'(by omega) := by simp [List.getD_eq_getElem?_getD, ht, hk]
  rw [hg]
  by_cases h : k = 9
  · simp [h]
  · by_cases h' : k = 8
    · simp [h']
    · by_cases h'' : k = 7
      · simp [h'', List.getD_eq_getElem?_getD, ht]
      · simp [h, h', h'', Ne.symm h, Ne.symm h', Ne.symm h'']

/-! ## Management (46_management.md R250–R261) -/

/-- The card as bind() opens a medium: unbound first (R261), then the medium's content and an empty cache (R70). -/
def State.openMedium (s : State) : State :=
  { (if s.bound then s.unbind else s) with
    medium := Memory.load (512 * s.draw.geometry.total) s.draw.image
    cache := [] }

/-- bind() ends in BindError before or after the medium is open, with the card unbound, or in an accepted medium
(R251). -/
theorem State.bindMedium_cases (s : State) (path : String) :
    (s.draw.storeError = true ∧ s.bindMedium path = (if s.bound then s.unbind else s).answer .bindError) ∨
    (s.draw.storeError = false ∧ s.draw.geometry.accepted = true ∧
      s.draw.geometry.capacity < Config.capacityLimit ∧
      s.bindMedium path = s.openMedium.acceptMedium s.draw.geometry) ∨
    (s.draw.storeError = false ∧
      ¬(s.draw.geometry.accepted = true ∧ s.draw.geometry.capacity < Config.capacityLimit) ∧
      s.bindMedium path = s.openMedium.rejectMedium) := by
  have ht : (if s.bound then s.unbind else s).draw = s.draw := by
    split
    · simp only [State.unbind]; split <;> rfl
    · rfl
  cases hd : s.draw.storeError
  · refine .inr ?_
    simp only [State.bindMedium, State.storeBind, ht, hd, true_and]
    by_cases ha : s.draw.geometry.accepted = true
    · by_cases hc : Config.capacityLimit ≤ s.draw.geometry.capacity
      · exact .inr ⟨by simp; omega, by simp [ha, hc, State.openMedium, Geometry.total, ht]⟩
      · exact .inl ⟨ha, by omega, by simp [ha, hc, State.openMedium, Geometry.total, ht]⟩
    · exact .inr ⟨by simp [ha], by simp [ha, State.openMedium, Geometry.total, ht]⟩
  · exact .inl ⟨rfl, by simp only [State.bindMedium, State.storeBind, ht, hd]; rfl⟩

end Sys2Proof.Machine
end

