-- ==== Sys2Proof/Laws/PerInstr.lean ====
section
/-! SUPPORT. The family `FrameLength`: how many bytes each instruction takes on the bus (30_encoding.md R90, R100,
R103), one lemma per constructor. -/

namespace Sys2Proof.Laws

/-- A command frame is six bytes, a discarded byte one, a data frame 515, whatever the parameters and the CRC bytes. -/
def FrameLength.Statement (i : Instr) : Prop :=
  ∀ P crc1 crc2, (encode P i crc1 crc2).length =
    match i with
    | .invalidByte _ => 1
    | .dataFrame _ => 515
    | _ => 6

theorem FrameLength.cmd0GoIdleState (arg : Argument) : FrameLength.Statement (.cmd0GoIdleState arg) := fun _ _ _ => rfl
theorem FrameLength.cmd8SendIfCond (arg : Argument) : FrameLength.Statement (.cmd8SendIfCond arg) := fun _ _ _ => rfl
theorem FrameLength.cmd9SendCsd (arg : Argument) : FrameLength.Statement (.cmd9SendCsd arg) := fun _ _ _ => rfl
theorem FrameLength.cmd10SendCid (arg : Argument) : FrameLength.Statement (.cmd10SendCid arg) := fun _ _ _ => rfl
theorem FrameLength.cmd17ReadSingleBlock (arg : Argument) : FrameLength.Statement (.cmd17ReadSingleBlock arg) :=
  fun _ _ _ => rfl
theorem FrameLength.cmd24WriteBlock (arg : Argument) : FrameLength.Statement (.cmd24WriteBlock arg) := fun _ _ _ => rfl
theorem FrameLength.cmd55AppCmd (arg : Argument) : FrameLength.Statement (.cmd55AppCmd arg) := fun _ _ _ => rfl
theorem FrameLength.cmd58ReadOcr (arg : Argument) : FrameLength.Statement (.cmd58ReadOcr arg) := fun _ _ _ => rfl
theorem FrameLength.acmd13SdStatus (arg : Argument) : FrameLength.Statement (.acmd13SdStatus arg) := fun _ _ _ => rfl
theorem FrameLength.acmd22SendNumWrBlocks (arg : Argument) : FrameLength.Statement (.acmd22SendNumWrBlocks arg) :=
  fun _ _ _ => rfl
theorem FrameLength.acmd23SetWrBlkEraseCount (arg : Argument) :
    FrameLength.Statement (.acmd23SetWrBlkEraseCount arg) := fun _ _ _ => rfl
theorem FrameLength.acmd42SetClrCardDetect (arg : Argument) : FrameLength.Statement (.acmd42SetClrCardDetect arg) :=
  fun _ _ _ => rfl
theorem FrameLength.acmd51SendScr (arg : Argument) : FrameLength.Statement (.acmd51SendScr arg) := fun _ _ _ => rfl
theorem FrameLength.acmd41SdSendOpCond (arg : Argument) : FrameLength.Statement (.acmd41SdSendOpCond arg) :=
  fun _ _ _ => rfl
theorem FrameLength.illegal (index : BitVec 6) (arg : Argument) : FrameLength.Statement (.illegal index arg) :=
  fun _ _ _ => rfl
theorem FrameLength.invalidByte (b : Byte) : FrameLength.Statement (.invalidByte b) := fun _ _ _ => rfl
theorem FrameLength.dataFrame (payload : Sector) : FrameLength.Statement (.dataFrame payload) := fun _ _ _ => by
  simp [encode, payload.size]

end Sys2Proof.Laws
end

