-- ==== Sys2Proof/Laws/Step.lean ====
section
/-! SUPPORT. What a step is, by its next host call. -/

namespace Sys2Proof.Machine

/-- No call pending: nothing happens (00_scope.md R16). -/
theorem step_of_no_inputs {s : State} (h : s.inputs = []) : step s = .next s := by simp [step, stepInput, h]

/-- A call pending: it is taken and performed (R17). -/
theorem step_of_input {s : State} {c : HostCall} {d : Draw} {rest : List Input} (h : s.inputs = ⟨c, d⟩ :: rest) :
    step s = perform c (s.accept d rest) := by simp [step, stepInput, h]

@[simp] theorem perform_write (b : Byte) (s : State) : perform (.write b) s = s.writeByte b := rfl
@[simp] theorem perform_read (s : State) : perform .read s = .next s.readByte := rfl
@[simp] theorem perform_reset (s : State) : perform .reset s = .next s.resetBus := rfl
@[simp] theorem perform_bind (p : String) (s : State) : perform (.bind p) s = .next (s.bindMedium p) := rfl
@[simp] theorem perform_unbind (s : State) : perform .unbind s = .next s.unbind := rfl
@[simp] theorem perform_commit (s : State) : perform .commit s = .next s.commit := rfl
@[simp] theorem perform_isDirty (s : State) : perform .isDirty s = .next s.isDirty := rfl

theorem State.writeByte_unbound {s : State} (h : s.bound = false) (b : Byte) : s.writeByte b = .next s := by
  simp [State.writeByte, h]

theorem State.writeByte_bound {s : State} (h : s.bound = true) (b : Byte) : s.writeByte b = s.writeBound b := by
  simp [State.writeByte, h]

/-- Everything a write can do at a bound card, phase by phase (41_parser.md R150). -/
theorem step_write_cases {s : State} {b : Byte} {d : Draw} {rest : List Input}
    (hi : s.inputs = ⟨.write b, d⟩ :: rest) (hb : s.bound = true) :
    (s.phase = .awaitingCommand ∧ isCommandByte b = true ∧ step s = .next ((s.accept d rest).startFrame b)) ∨
    (s.phase = .awaitingCommand ∧ isCommandByte b = false ∧ step s = .next (s.accept d rest)) ∨
    (s.phase = .awaitingArg0 ∧ step s = .next ((s.accept d rest).captureArg0 b)) ∨
    (s.phase = .awaitingArg1 ∧ step s = .next ((s.accept d rest).captureArg1 b)) ∨
    (s.phase = .awaitingArg2 ∧ step s = .next ((s.accept d rest).captureArg2 b)) ∨
    (s.phase = .awaitingArg3 ∧ step s = .next ((s.accept d rest).captureArg3 b)) ∨
    (s.phase = .awaitingCrc ∧
      step s = exec (decodeFrame s.params s.cmd55Seen s.currentCommand s.argument) (s.accept d rest)) ∨
    (s.phase = .awaitingDataToken ∧ step s = .next ((s.accept d rest).receiveToken b)) ∨
    (s.phase = .awaitingData ∧ step s = .next ((s.accept d rest).receivePayload b)) ∨
    (s.phase = .awaitingDataCrc1 ∧ step s = .next ((s.accept d rest).receiveDataCrc1 b)) ∨
    (s.phase = .awaitingDataCrc2 ∧ step s = exec (.dataFrame s.writePayload) (s.accept d rest)) := by
  rw [step_of_input hi, perform_write, State.writeByte_bound (by simpa using hb)]
  simp only [State.writeBound, State.accept_phase]
  cases hp : s.phase <;> simp
  cases hc : isCommandByte b <;> simp; rfl

/-- A run of one more step than `k` is a step and a run of `k`. -/
theorem run_succ (k : Nat) {s t : State} (h : step s = .next t) :
    Sys2Proof.core.run (k + 1) s = Sys2Proof.core.run k t := by
  have h' : Sys2Proof.core.step s = .next t := h
  simp only [Host.Core.run, h']

/-- Every instruction completes. -/
theorem exec_next (i : Instr) (s : State) : ∃ t, exec i s = .next t := by
  cases i <;> exact ⟨_, rfl⟩

end Sys2Proof.Machine
end

