-- ==== Sys2Proof/Tests/Slice0.lean ====
section
/-! SUPPORT. The model's own tests, each with the vector of spec/95_test_vectors.md it takes its result from, and a
witness for every statement with hypotheses. -/

namespace Sys2Proof.Tests

open Sys2Proof.Machine Sys2Proof.Claims

set_option Elab.async false

/-! ## Small states -/

/-- A ready card bound to a medium of 1024 sectors: the state after bind, M1. -/
def ready : State := { State.reset with bound := true, totalSectors := 1024 }

/-- The same card idle. -/
def idle : State := { ready with status := 0x01 }

/-- A card about to take one call, with a draw. -/
def facing (s : State) (c : HostCall) (d : Draw) : State := { s with inputs := [⟨c, d⟩] }

/-- A card with a frame but its CRC byte taken, about to take the byte 0xFF for it. -/
def atCrc (s : State) (n : BitVec 6) (arg : Argument) : State :=
  facing { s with phase := .awaitingCrc, currentCommand := n, argument := arg } (.write 0xFF) Draw.zero

/-- The same frame after CMD55. -/
def atAppCrc (s : State) (n : BitVec 6) (arg : Argument) : State := { atCrc s n arg with cmd55Seen := true }

/-- A card in a phase of the data phase of CMD24(index). -/
def inData (s : State) (p : Phase) (count : Nat) (arg : Argument) : State :=
  { s with phase := p, currentCommand := 24, argument := arg, payloadCount := count }

/-- A payload that starts 11 FE. -/
def payload : Sector := ((Sector.fill 0).setByte 0 0x11).setByte 1 0xFE

/-- A draw of a store error. -/
def failing : Draw := { Draw.zero with storeError := true }

/-- A draw of a medium with a geometry. -/
def medium (c h s size : Nat) : Draw := { Draw.zero with geometry := ⟨c, h, s, size⟩ }

/-- A card with sector 5 dirty. -/
def dirty : State := { ready with cache := [(5, payload)] }

/-- Legal parameters other than the default ones, all kinds of them. -/
def other : Params where
  cmdIndex := { Params.default.cmdIndex with cmd17 := 18, cmd58 := 1, acmd41 := 2 }
  r1Illegal := 0x02
  r1Param := 0x20
  hcsBit := 24
  ocrBytes := ⟨[0x80, 0xFF, 0x80, 0x00], rfl⟩
  csdTemplate :=
    ⟨[0x40, 0x0E, 0x00, 0x32, 0x5B, 0x59, 0x00, 0xFF, 0xFF, 0xFF, 0x7F, 0x80, 0x16, 0x40, 0x00, 0x03], rfl⟩

/-- The next state, if there is one. -/
def nextOf : Host.Outcome State Fault Refusal → Option State
  | .next s => some s
  | .fault _ => none
  | .refused _ => none

/-- A part of the next state. -/
def see {α : Type} (o : Host.Outcome State Fault Refusal) (f : State → α) : Option α := (nextOf o).map f

/-- Each decidable part of `CardInv` is enough. -/
theorem legal_of (s : State)
    (h : (s.params.Legal ∧ s.status &&& ~~~(0x01 ||| s.params.r1Illegal ||| s.params.r1Param) = 0 ∧
        ¬(s.status &&& s.params.r1Illegal ≠ 0 ∧ s.status &&& s.params.r1Param ≠ 0)) ∧
      (s.responseQueue.length ≤ 516 ∧ s.payloadCount ≤ 512) ∧
      (s.bound = true →
        s.totalSectors.toNat % 1024 = 0 ∧ 1024 ≤ s.totalSectors.toNat ∧
          s.capacityField.toNat = s.totalSectors.toNat / 1024 - 1 ∧ s.capacityField.toNat < 65375) ∧
      (s.bound = false →
        s.phase = .awaitingCommand ∧ s.status = 0x00 ∧ s.responseQueue = [] ∧ s.payloadCount = 0 ∧
          s.cmd8Seen = false ∧ s.cmd55Seen = false ∧ s.capacityField = 0 ∧ s.totalSectors = 0 ∧
          s.medium = [] ∧ s.cache = []) ∧
      ((s.phase.isData = true → s.currentCommand = s.params.cmdIndex.cmd24 ∧
          s.status &&& (s.params.r1Illegal ||| s.params.r1Param) = 0) ∧
        (s.phase = .awaitingData → s.payloadCount < 512) ∧
        (s.phase = .awaitingDataCrc1 ∨ s.phase = .awaitingDataCrc2 → s.payloadCount = 512)) ∧
      (s.medium.wf ∧ s.cache.wf ∧ (∀ c ∈ s.medium, c.1 < 512 * s.totalSectors.toNat) ∧
        ∀ e ∈ s.cache, e.1 < s.totalSectors.toNat)) : CardInv s :=
  ⟨h.1.1, h.1.2, h.2.1, h.2.2.1, h.2.2.2.1, h.2.2.2.2.1, h.2.2.2.2.2⟩

/-! ## WellFormed: an ill-formed term for each check -/

theorem test_wellFormed_illegal : (Instr.illegal 0 ⟨0, 0, 0, 0⟩).WellFormed Params.default = false := by decide
theorem test_wellFormed_illegal_app : (Instr.illegal 58 ⟨0, 0, 0, 0⟩).WellFormed Params.default = false := by decide
theorem test_wellFormed_invalidByte : (Instr.invalidByte 0x40).WellFormed Params.default = false := by decide
theorem test_wellFormed_invalidByte_top : (Instr.invalidByte 0x7F).WellFormed Params.default = false := by decide

/-! ## Decoding: one word for each constructor, written bit by bit from 30_encoding.md R90–R97 and R103 -/

theorem test_decode_cmd0 : decode Params.default (.command false) [0b01000000, 0x12, 0x34, 0x56, 0x78, 0xFF] =
    .ok (.cmd0GoIdleState ⟨0x12, 0x34, 0x56, 0x78⟩, []) := rfl
theorem test_decode_cmd8 : decode Params.default (.command false) [0b01001000, 0x00, 0x00, 0x01, 0xAA, 0x87] =
    .ok (.cmd8SendIfCond ⟨0x00, 0x00, 0x01, 0xAA⟩, []) := rfl
theorem test_decode_cmd9 : decode Params.default (.command false) [0b01001001, 0, 0, 0, 0, 0xFF] =
    .ok (.cmd9SendCsd ⟨0, 0, 0, 0⟩, []) := rfl
theorem test_decode_cmd10 : decode Params.default (.command false) [0b01001010, 0, 0, 0, 0, 0xFF] =
    .ok (.cmd10SendCid ⟨0, 0, 0, 0⟩, []) := rfl
theorem test_decode_cmd17 : decode Params.default (.command false) [0b01010001, 0x12, 0x34, 0x56, 0x78, 0xFF] =
    .ok (.cmd17ReadSingleBlock ⟨0x12, 0x34, 0x56, 0x78⟩, []) := rfl
theorem test_decode_cmd24 : decode Params.default (.command false) [0b01011000, 0, 0, 0, 5, 0xFF] =
    .ok (.cmd24WriteBlock ⟨0, 0, 0, 5⟩, []) := rfl
theorem test_decode_cmd55 : decode Params.default (.command false) [0b01110111, 0, 0, 0, 0, 0xFF] =
    .ok (.cmd55AppCmd ⟨0, 0, 0, 0⟩, []) := rfl
theorem test_decode_cmd58 : decode Params.default (.command false) [0b01111010, 0, 0, 0, 0, 0xFF] =
    .ok (.cmd58ReadOcr ⟨0, 0, 0, 0⟩, []) := rfl
theorem test_decode_acmd13 : decode Params.default (.command true) [0b01001101, 0, 0, 0, 0, 0xFF] =
    .ok (.acmd13SdStatus ⟨0, 0, 0, 0⟩, []) := rfl
theorem test_decode_acmd22 : decode Params.default (.command true) [0b01010110, 0, 0, 0, 0, 0xFF] =
    .ok (.acmd22SendNumWrBlocks ⟨0, 0, 0, 0⟩, []) := rfl
theorem test_decode_acmd23 : decode Params.default (.command true) [0b01010111, 0, 0, 0, 8, 0xFF] =
    .ok (.acmd23SetWrBlkEraseCount ⟨0, 0, 0, 8⟩, []) := rfl
theorem test_decode_acmd42 : decode Params.default (.command true) [0b01101010, 0, 0, 0, 0, 0xFF] =
    .ok (.acmd42SetClrCardDetect ⟨0, 0, 0, 0⟩, []) := rfl
theorem test_decode_acmd51 : decode Params.default (.command true) [0b01110011, 0, 0, 0, 0, 0xFF] =
    .ok (.acmd51SendScr ⟨0, 0, 0, 0⟩, []) := rfl
theorem test_decode_acmd41 : decode Params.default (.command true) [0b01101001, 0x40, 0, 0, 0, 0xFF] =
    .ok (.acmd41SdSendOpCond ⟨0x40, 0, 0, 0⟩, []) := rfl
theorem test_decode_illegal : decode Params.default (.command false) [0b01010000, 0, 0, 2, 0, 0xFF, 0x40] =
    .ok (.illegal 16 ⟨0, 0, 2, 0⟩, [0x40]) := rfl
theorem test_decode_invalidByte : decode Params.default (.command true) [0b10000000, 0x40] =
    .ok (.invalidByte 0x80, [0x40]) := rfl
theorem test_decode_dataFrame :
    (decode Params.default .data (0xFF :: 0b11111110 :: payload.bytes ++ [0x12, 0x34])).toOption =
      some (.dataFrame payload, []) := by
  decide +kernel

/-- An application index without the prefix is ILLEGAL, and a standard index after it is the standard command
(42_dispatch.md R173, R174; vectors D-2, D-6). -/
theorem test_decode_prefix : decodeFrame Params.default false 41 ⟨0x40, 0, 0, 0⟩ = .illegal 41 ⟨0x40, 0, 0, 0⟩ ∧
    decodeFrame Params.default true 17 ⟨0, 0, 0, 0⟩ = .cmd17ReadSingleBlock ⟨0, 0, 0, 0⟩ := by decide

/-- The decoder's rejections, by name (R159; U13). -/
theorem test_decode_rejects : decode Params.default (.command false) [] = .error .noBytes ∧
    decode Params.default (.command false) [0x40, 0, 0, 0, 0] = .error .truncatedCommand ∧
    decode Params.default .data [0xFF, 0x40] = .error .noDataToken ∧
    decode Params.default .data [0xFE, 0x00] = .error .truncatedData :=
  ⟨rfl, rfl, rfl, rfl⟩

/-! ## The step of each command's CRC byte (vectors S, A, B) -/

theorem test_S1_goIdle : see (step (atCrc { ready with cmd8Seen := true } 0 ⟨0, 0, 0, 0⟩))
    (fun t => (t.responseQueue, t.status, t.cmd8Seen)) = some ([0x01], 0x01, false) := by decide +kernel
theorem test_S2_goIdle_argument : see (step (atCrc idle 0 ⟨0x12, 0x34, 0x56, 0x78⟩))
    (fun t => (t.responseQueue, t.status)) = some ([0x01], 0x01) := by decide +kernel
theorem test_S3_sendIfCond : see (step (atCrc idle 8 ⟨0x00, 0x00, 0x01, 0xAA⟩))
    (fun t => (t.responseQueue, t.cmd8Seen)) = some ([0x01, 0x00, 0x00, 0x01, 0xAA], true) := by decide +kernel
theorem test_S4_sendIfCond : see (step (atCrc ready 8 ⟨0x12, 0x34, 0x56, 0x55⟩))
    State.responseQueue = some [0x00, 0x00, 0x00, 0x01, 0x55] := by decide +kernel
theorem test_S6_sendCsd : see (step (atCrc ready 9 ⟨0, 0, 0, 0⟩)) State.responseQueue =
    some [0x00, 0xFE, 0x40, 0x0E, 0x00, 0x32, 0x5B, 0x59, 0x00, 0x00, 0x00, 0x00, 0x7F, 0x80, 0x0A, 0x40, 0x00, 0x01,
      0x00, 0x00] := by decide +kernel
theorem test_S7_sendCsd :
    see (step (atCrc { ready with totalSectors := 66944000, capacityField := 65374 } 9 ⟨0, 0, 0, 0⟩))
      State.responseQueue =
    some [0x00, 0xFE, 0x40, 0x0E, 0x00, 0x32, 0x5B, 0x59, 0x00, 0x00, 0xFF, 0x5E, 0x7F, 0x80, 0x0A, 0x40, 0x00, 0x01,
      0x00, 0x00] := by decide +kernel
/-- S8 but for the sixteen open bytes: twenty bytes, status and token first, two zero bytes last. -/
theorem test_S8_sendCid : see (step (atCrc ready 10 ⟨0, 0, 0, 0⟩))
    (fun t => (t.responseQueue.length, t.responseQueue.take 2, t.responseQueue.drop 18)) =
    some (20, [0x00, 0xFE], [0x00, 0x00]) := by decide +kernel
theorem test_S9_readOcr : see (step (atCrc idle 58 ⟨0, 0, 0, 0⟩)) State.responseQueue =
    some [0x01, 0xC0, 0x00, 0x00, 0x00] := by decide +kernel
/-- D-1: the dispatch clears an earlier error bit. -/
theorem test_D1_readOcr : see (step (atCrc { idle with status := 0x05 } 58 ⟨0, 0, 0, 0⟩))
    (fun t => (t.responseQueue, t.status)) = some ([0x01, 0xC0, 0x00, 0x00, 0x00], 0x01) := by decide +kernel
theorem test_S11_appCmd : see (step (atCrc idle 55 ⟨0, 0, 0, 0⟩))
    (fun t => (t.responseQueue, t.cmd55Seen)) = some ([0x01], true) := by decide +kernel
theorem test_S12_illegal : see (step (atCrc idle 1 ⟨0, 0, 0, 0⟩)) State.responseQueue = some [0x05] := by
  decide +kernel
theorem test_S15_illegal : see (step (atCrc { idle with status := 0x05 } 13 ⟨0, 0, 0, 0⟩)) State.responseQueue =
    some [0x05] := by decide +kernel
theorem test_A1_sendOpCond : see (step (atAppCrc { idle with cmd8Seen := true } 41 ⟨0x40, 0, 0, 0⟩))
    (fun t => (t.responseQueue, t.status, t.cmd8Seen, t.cmd55Seen)) = some ([0x00], 0x00, true, false) := by
  decide +kernel
theorem test_A5_sendOpCond : see (step (atAppCrc { idle with cmd8Seen := true } 41 ⟨0xBF, 0xFF, 0xFF, 0xFF⟩))
    State.responseQueue = some [0x01] := by decide +kernel
theorem test_A8_sdStatus : see (step (atAppCrc ready 13 ⟨0, 0, 0, 0⟩)) State.responseQueue = some [0x04] := by
  decide +kernel
theorem test_A9_sendNumWrBlocks : see (step (atAppCrc idle 22 ⟨0, 0, 0, 0⟩)) State.responseQueue = some [0x05] := by
  decide +kernel
theorem test_A10_setWrBlkEraseCount : see (step (atAppCrc ready 23 ⟨0, 0, 0, 8⟩)) State.responseQueue =
    some [0x04] := by decide +kernel
theorem test_A11_setClrCardDetect : see (step (atAppCrc ready 42 ⟨0, 0, 0, 0⟩)) State.responseQueue = some [0x04] := by
  decide +kernel
theorem test_A12_sendScr : see (step (atAppCrc ready 51 ⟨0, 0, 0, 0⟩)) State.responseQueue = some [0x04] := by
  decide +kernel
/-- B4 and B5: the range error on an idle card with an old error bit, and the unsigned comparison. -/
theorem test_B4_B5_readRange :
    see (step (atCrc { idle with status := 0x05 } 17 ⟨0, 0, 4, 0⟩)) State.responseQueue = some [0x41] ∧
    see (step (atCrc ready 17 ⟨0xFF, 0xFF, 0xFF, 0xFF⟩)) State.responseQueue = some [0x40] := by decide +kernel
/-- L1-5: an uncommitted payload is read back, 516 bytes in all. -/
theorem test_L15_readBack : see (step (atCrc dirty 17 ⟨0, 0, 0, 5⟩))
    (fun t => (t.responseQueue.take 4, t.responseQueue.length)) = some ([0x00, 0xFE, 0x11, 0xFE], 516) := by
  decide +kernel
theorem test_B8_writeBlock : see (step (atCrc ready 24 ⟨0, 0, 0, 5⟩))
    (fun t => (t.responseQueue, t.phase)) = some ([0x00], .awaitingDataToken) := by decide +kernel
/-- D-7: after CMD55 the write-block index falls through to CMD24. -/
theorem test_D7_writeBlock : see (step (atAppCrc ready 24 ⟨0, 0, 0, 3⟩))
    (fun t => (t.responseQueue, t.phase, t.cmd55Seen)) = some ([0x00], .awaitingDataToken, false) := by decide +kernel
theorem test_B13_dataFrame :
    see (step (facing { inData ready .awaitingDataCrc2 512 ⟨0, 0, 0, 5⟩ with writePayload := payload }
      (.write 0x34) Draw.zero)) (fun t => (t.responseQueue, t.phase, t.cache)) =
    some ([0x05, 0x01], .awaitingCommand, [(5, payload)]) := by decide +kernel
theorem test_B15_dataFrame :
    see (step (facing (inData idle .awaitingDataCrc2 512 ⟨0, 0, 4, 0⟩) (.write 0x00) Draw.zero))
      (fun t => (t.responseQueue, t.status, t.cache)) = some ([0x41], 0x41, []) := by decide +kernel
theorem test_P1_P4_invalidByte : step (facing ready (.write 0x3F) Draw.zero) = .next ready ∧
    step (facing ready (.write 0x80) Draw.zero) = .next ready := ⟨rfl, rfl⟩

/-! ## The other bytes and the other calls (vectors P, B, T, M) -/

theorem test_P3_commandByte : see (step (facing ready (.write 0x7F) Draw.zero))
    (fun t => (t.phase, t.currentCommand)) = some (.awaitingArg0, 63) := by decide +kernel
/-- P7 and P8: argument bytes are big-endian, and 0x40 there is data. -/
theorem test_P7_argval : argval ⟨0x12, 0x34, 0x56, 0x78⟩ = 0x12345678 ∧
    see (step (facing { ready with phase := .awaitingArg0 } (.write 0x40) Draw.zero))
      (fun t => (t.phase, t.argument)) = some (.awaitingArg1, ⟨0x40, 0, 0, 0⟩) := by decide +kernel
theorem test_B9_discarded : step (facing (inData ready .awaitingDataToken 0 ⟨0, 0, 0, 5⟩) (.write 0xFC) Draw.zero) =
    .next (inData ready .awaitingDataToken 0 ⟨0, 0, 0, 5⟩) := rfl
theorem test_B11_lastPayloadByte :
    see (step (facing (inData ready .awaitingData 511 ⟨0, 0, 0, 5⟩) (.write 0xAB) Draw.zero))
      (fun t => (t.phase, t.payloadCount, t.writePayload.byte 511, t.writePayload.byte 510)) =
    some (.awaitingDataCrc1, 512, 0xAB, 0x00) := by decide +kernel
theorem test_B19_reset : see (step (facing (inData dirty .awaitingData 100 ⟨0, 0, 0, 5⟩) .reset Draw.zero))
    (fun t => (t.phase, t.payloadCount, t.cache)) = some (.awaitingCommand, 0, [(5, payload)]) := by decide +kernel
theorem test_T1_unboundWrite : step (facing State.reset (.write 0x40) Draw.zero) = .next State.reset := rfl
theorem test_T3_read : see (step (facing { ready with responseQueue := [0x01, 0x00] } .read Draw.zero))
    (fun t => (t.reply, t.responseQueue)) = some (.byte 0x01, [0x00]) := by decide +kernel
theorem test_T2_readEmpty : see (step (facing ready .read Draw.zero)) State.reply = some (.byte 0xFF) := by
  decide +kernel

/-- The reply and the fields of a bind (vectors M1 to M12). -/
def bindResult (d : Draw) : Option (Reply × Bool × BitVec 32 × BitVec 16) :=
  see (step (facing State.reset (.bind "disk") d)) fun t => (t.reply, t.bound, t.totalSectors, t.capacityField)

theorem test_M1_M3_bind : bindResult (medium 16 1 64 512) = some (.ok, true, 1024, 0) ∧
    bindResult (medium 1024 16 64 512) = some (.ok, true, 1048576, 1023) := by decide +kernel
theorem test_M4_M5_bind : bindResult (medium 65375 16 64 512) = some (.ok, true, 66944000, 65374) ∧
    bindResult (medium 65376 16 64 512) = some (.bindError, false, 0, 0) := by decide +kernel
theorem test_M6_M8_bind : bindResult (medium 1023 1 1 512) = some (.bindError, false, 0, 0) ∧
    bindResult (medium 0 16 64 512) = some (.bindError, false, 0, 0) := by decide +kernel
theorem test_M9_M10_bind : bindResult (medium 1024 16 64 256) = some (.bindError, false, 0, 0) ∧
    bindResult (medium 1024 16 64 1024) = some (.bindError, false, 0, 0) := by decide +kernel
theorem test_M11_M12_bind : bindResult (medium 65536 65536 65536 512) = some (.bindError, false, 0, 0) ∧
    bindResult failing = some (.bindError, false, 0, 0) := by decide +kernel
/-- A fresh medium's byte is read at its sector's place: byte 1 of sector 5 is medium byte 2561 (R62). -/
theorem test_bind_image :
    see (step (facing State.reset (.bind "disk") { medium 16 1 64 512 with image := [(2561, 0x77), (524288, 0x01)] }))
      (fun t => (t.medium, (t.sectorData 5).byte 1)) = some ([(2561, 0x77)], 0x77) := by decide +kernel
theorem test_M13_bindDiscards : see (step (facing dirty (.bind "B") (medium 1000 1 1 512)))
    (fun t => (t.reply, t.bound, t.cache)) = some (.bindError, false, []) := by decide +kernel
theorem test_commit : see (step (facing dirty .commit Draw.zero))
    (fun t => (t.reply, t.cache, t.medium)) = some (.ok, [], [(2560, 0x11), (2561, 0xFE)]) := by decide +kernel
/-- M17 with a draw in which nothing reached the medium. -/
theorem test_M17_commit : see (step (facing dirty .commit failing))
    (fun t => (t.reply, t.cache, t.medium)) = some (.flushError, [(5, payload)], []) := by decide +kernel
theorem test_M14_M15_unbound : see (step (facing State.reset .commit failing)) State.reply = some .ok ∧
    see (step (facing State.reset .isDirty Draw.zero)) State.reply = some (.dirty false) := by decide +kernel
theorem test_isDirty : see (step (facing dirty .isDirty Draw.zero)) State.reply = some (.dirty true) := by
  decide +kernel
theorem test_M19_unbind : see (step (facing { dirty with responseQueue := [0x00, 0x01, 0xAA] } .unbind Draw.zero))
    (fun t => (t.bound, t.responseQueue, t.capacityField, t.cache)) = some (false, [], 0, []) := by decide +kernel

/-- A table word placed from power-on runs as the very next step (log entry 27). -/
theorem test_withFetchWord : see (step (State.reset.withFetchWord 48 0xFF_00_00_00_00_7A)) State.responseQueue =
    some [0x00, 0xC0, 0x00, 0x00, 0x00] ∧
    see (step (State.reset.withFetchWord 16 0x11FE)) State.responseQueue = some [0x05, 0x01] := by decide +kernel

/-! ## Other parameters than the default ones (00_scope.md R10) -/

/-- R187 and R185 with another mask, index and OCR. -/
theorem test_other_illegal_ocr : see (step (atCrc { idle with params := other } 58 ⟨0, 0, 0, 0⟩)) State.responseQueue =
      some [0x03] ∧
    see (step (atCrc { idle with params := other, status := 0x03 } 1 ⟨0, 0, 0, 0⟩)) State.responseQueue =
      some [0x01, 0x80, 0xFF, 0x80, 0x00] := by decide +kernel
/-- R206 with the bit at another place: argument bit 24 is bit 0 of the first byte. -/
theorem test_other_sendOpCond :
    see (step (atAppCrc { idle with params := other, cmd8Seen := true } 2 ⟨0x01, 0, 0, 0⟩)) State.responseQueue =
      some [0x00] ∧
    see (step (atAppCrc { idle with params := other, cmd8Seen := true } 2 ⟨0xFE, 0, 0, 0⟩)) State.responseQueue =
      some [0x01] := by decide +kernel
/-- R124 and R221 with another template, mask and index: the template's C_SIZE bits count for nothing. -/
theorem test_other_csd_range : see (step (atCrc { ready with params := other } 9 ⟨0, 0, 0, 0⟩)) State.responseQueue =
      some [0x00, 0xFE, 0x40, 0x0E, 0x00, 0x32, 0x5B, 0x59, 0x00, 0xC0, 0x00, 0x00, 0x7F, 0x80, 0x16, 0x40, 0x00, 0x03,
        0x00, 0x00] ∧
    see (step (atCrc { ready with params := other } 18 ⟨0, 0, 4, 0⟩)) State.responseQueue = some [0x20] := by
  decide +kernel


/-! ## Legal states for the witnesses -/

theorem default_legal : Params.default.Legal := by decide
theorem other_legal : other.Legal := by decide
theorem ready_legal : CardInv ready := legal_of _ (by decide)
theorem dirty_legal : CardInv dirty := legal_of _ (by decide +kernel)
theorem dirty_facing_legal (c : HostCall) (d : Draw) : CardInv (facing dirty c d) :=
  ⟨dirty_legal.params, dirty_legal.status, dirty_legal.buffers, dirty_legal.capacity, dirty_legal.unbound,
    dirty_legal.dataPhase, dirty_legal.store⟩
theorem ready_facing_legal (c : HostCall) (d : Draw) : CardInv (facing ready c d) :=
  ⟨ready_legal.params, ready_legal.status, ready_legal.buffers, ready_legal.capacity, ready_legal.unbound,
    ready_legal.dataPhase, ready_legal.store⟩
theorem unbound_facing_legal (c : HostCall) (d : Draw) : CardInv (facing State.reset c d) :=
  legal_of _ ⟨⟨default_legal, by simp [facing, State.reset]⟩,
    by simp [facing, State.reset, Memory.wf, Cache.wf, Phase.isData]⟩

/-! ## Witnesses: a state and operands that meet the hypotheses of each statement, each clause at a boundary -/

theorem witness_DecodeOfEncode : Params.default.Legal ∧ other.Legal ∧
    (Instr.illegal 17 ⟨0, 0, 0, 0⟩).WellFormed other = true ∧
    (Instr.illegal 59 ⟨0, 0, 0, 0⟩).WellFormed Params.default = true ∧
    (Instr.invalidByte 0x3F).WellFormed Params.default = true ∧
    (Instr.invalidByte 0x80).WellFormed Params.default = true ∧
    (Instr.dataFrame payload).WellFormed Params.default = true := by decide
theorem witness_DecodedBytesAreTheEncoding :
    decode Params.default (.command true) [0x69, 0x40, 0, 0, 0, 0xFF, 0x40] =
      .ok (.acmd41SdSendOpCond ⟨0x40, 0, 0, 0⟩, [0x40]) := rfl
theorem witness_DataFrameStartsAtTheToken : ∀ b ∈ ([0xFF, 0xFD, 0x00] : List Byte), b ≠ 0xFE := by decide
theorem witness_DecodeSelectsOneHandler : Params.default.Legal ∧ other.Legal ∧
    (17 : BitVec 6) ∉ other.cmdIndex.standard ∧ (41 : BitVec 6) ∉ other.cmdIndex.standard ∧
    (41 : BitVec 6) ∉ other.cmdIndex.app := by decide
theorem witness_GoIdleResult : ready.bound = true ∧ Params.default.Legal ∧ other.Legal := by decide
theorem witness_SendIfCondResult : idle.bound = true ∧ Params.default.Legal ∧ other.Legal := by decide
/-- The largest capacity, with the default template and with another one (vector S7). -/
theorem witness_SendCsdResult :
    { ready with totalSectors := 66944000, capacityField := 65374 }.bound = true ∧
    ready.params.csdTemplate = Params.default.csdTemplate ∧ { ready with params := other }.bound = true ∧
    Params.default.Legal ∧ other.Legal ∧
    ([0x40, 0x0E, 0x00, 0x32, 0x5B, 0x59, 0x00, 0x00, 0xFF, 0x5E, 0x7F, 0x80, 0x0A, 0x40, 0x00, 0x01] : List Byte) =
      (List.range 16).map fun k =>
        if k = 7 then ready.params.csdTemplate.list.getD 7 0 &&& 0xC0
        else if k = 8 then (65374 : BitVec 16).extractLsb' 8 8
        else if k = 9 then (65374 : BitVec 16).extractLsb' 0 8
        else ready.params.csdTemplate.list.getD k 0 := by decide
theorem witness_SendCidResult : ready.bound = true ∧ Params.default.Legal ∧ other.Legal := by decide
theorem witness_ReadOcrResult : idle.bound = true ∧ idle.params.ocrBytes = Params.default.ocrBytes ∧
    { idle with params := other }.bound = true ∧ Params.default.Legal ∧ other.Legal := by decide
theorem witness_AppCmdResult : idle.bound = true ∧ Params.default.Legal ∧ other.Legal := by decide
/-- The last sector, the first index out of range, and a store error in range. -/
theorem witness_ReadSingleBlockResult : ready.bound = true ∧ Params.default.Legal ∧ other.Legal ∧
    ¬ready.totalSectors.toNat ≤ sectorIndex ⟨0, 0, 3, 0xFF⟩ ∧ ready.totalSectors.toNat ≤ sectorIndex ⟨0, 0, 4, 0⟩ ∧
    ready.draw.storeError = false ∧ { ready with draw := failing }.draw.storeError = true := by decide
theorem witness_ArgumentIsBigEndian : (argval ⟨0xFF, 0xFF, 0xFF, 0xFF⟩).toNat = 4294967295 ∧
    sectorIndex ⟨0x01, 0x00, 0x00, 0x00⟩ = 16777216 ∧ sectorIndex ⟨0x00, 0x00, 0x00, 0x01⟩ = 1 := by decide
theorem witness_WriteBlockResult : ready.bound = true ∧ Params.default.Legal ∧ other.Legal := by decide
theorem witness_UnimplementedAppCommandsResult : idle.bound = true ∧ Params.default.Legal ∧ other.Legal ∧
    (0x05 : Byte) = cleared idle ||| idle.params.r1Illegal ∧ idle.params.cmdIndex.acmd13 = 13 ∧
    (0x03 : Byte) = cleared { idle with params := other } ||| other.r1Illegal := by decide
/-- All four sides of the condition, with the status each gives (vectors A1 and A5), and another place of the bit. -/
theorem witness_SendOpCondResult : idle.bound = true ∧ idle.cmd8Seen = false ∧ Params.default.Legal ∧ other.Legal ∧
    { idle with cmd8Seen := true }.bound = true ∧ { idle with cmd8Seen := true }.cmd8Seen = true ∧
    (argval ⟨0x40, 0, 0, 0⟩).getLsbD idle.params.hcsBit = true ∧
    (argval ⟨0xBF, 0xFF, 0xFF, 0xFF⟩).getLsbD idle.params.hcsBit = false ∧
    (argval ⟨0x01, 0, 0, 0⟩).getLsbD other.hcsBit = true ∧
    (0x00 : Byte) = cleared { idle with cmd8Seen := true } &&& 0xFE ∧ (0x01 : Byte) = cleared idle := by decide
theorem witness_IllegalIndexResult : (63 : BitVec 6) ∉ ready.params.cmdIndex.standard ∧
    (1 : BitVec 6) ∉ ready.params.cmdIndex.standard ∧ ready.bound = true ∧
    (17 : BitVec 6) ∉ { ready with params := other }.params.cmdIndex.standard := by decide
theorem witness_InvalidByteDiscarded : ((0x3F : Byte).toNat < 0x40 ∨ 0x7F < (0x3F : Byte).toNat) ∧
    ((0x80 : Byte).toNat < 0x40 ∨ 0x7F < (0x80 : Byte).toNat) ∧
    (facing ready (.write 0x80) failing).phase = .awaitingCommand ∧
    (facing ready (.write 0x80) failing).inputs = [⟨.write 0x80, failing⟩] := ⟨by decide, by decide, rfl, rfl⟩
/-- The last sector, the first index out of range, and both draws of a store error in range. -/
theorem witness_DataFrameResult : ready.bound = true ∧
    ¬ready.totalSectors.toNat ≤ sectorIndex ⟨0, 0, 3, 0xFF⟩ ∧ ready.totalSectors.toNat ≤ sectorIndex ⟨0, 0, 4, 0⟩ ∧
    ready.draw.storeError = false ∧ failing.storeError = true ∧ failing.failedWriteLands = false ∧
    { failing with failedWriteLands := true }.failedWriteLands = true := by decide
theorem witness_UnboundCardIgnoresWrites : State.reset.bound = false ∧
    (facing State.reset (.write 0x40) failing).inputs = [⟨.write 0x40, failing⟩] := ⟨rfl, rfl⟩
/-- A command frame, CMD0 and CMD8 among them, and a data frame. -/
theorem witness_InstructionFrame : (∃ t, exec (.cmd58ReadOcr ⟨0, 0, 0, 0⟩) ready = .next t) ∧
    (∀ p, Instr.cmd58ReadOcr ⟨0, 0, 0, 0⟩ ≠ .dataFrame p) ∧
    (∀ arg, Instr.cmd58ReadOcr ⟨0, 0, 0, 0⟩ ≠ .cmd0GoIdleState arg ∧
      Instr.cmd58ReadOcr ⟨0, 0, 0, 0⟩ ≠ .cmd8SendIfCond arg) ∧
    ∃ t, exec (.dataFrame payload) ready = .next t :=
  ⟨⟨_, rfl⟩, by simp, by simp, _, rfl⟩
theorem witness_DataFrameStoresOneSector : CardInv ready ∧ ready.bound = true ∧
    sectorIndex ready.argument < ready.totalSectors.toNat ∧ ready.draw.storeError = false :=
  ⟨ready_legal, by decide⟩
theorem witness_GoIdleIsResetThenIdle : dirty.bound = true := rfl
theorem witness_StepRunsTheDecodedInstruction_byte :
    (facing ready (.write 0xFF) Draw.zero).bound = true ∧
    (facing ready (.write 0xFF) Draw.zero).inputs = [⟨.write 0xFF, Draw.zero⟩] ∧
    (facing ready (.write 0xFF) Draw.zero).phase = .awaitingCommand ∧
    decode Params.default (.command (facing ready (.write 0xFF) Draw.zero).cmd55Seen) [0xFF] =
      .ok (.invalidByte 0xFF, []) :=
  ⟨rfl, rfl, rfl, rfl⟩
theorem witness_StepRunsTheDecodedInstruction_frame :
    (atCrc ready 17 ⟨0, 0, 3, 0xFF⟩).bound = true ∧
    (atCrc ready 17 ⟨0, 0, 3, 0xFF⟩).inputs = [⟨.write 0xFF, Draw.zero⟩] ∧
    (atCrc ready 17 ⟨0, 0, 3, 0xFF⟩).phase = .awaitingCrc ∧
    decode Params.default (.command (atCrc ready 17 ⟨0, 0, 3, 0xFF⟩).cmd55Seen) [0x51, 0, 0, 3, 0xFF, 0xFF] =
      .ok (.cmd17ReadSingleBlock ⟨0, 0, 3, 0xFF⟩, []) := ⟨rfl, rfl, rfl, rfl⟩
theorem witness_StepRunsTheDecodedInstruction_data :
    (facing (inData ready .awaitingDataCrc2 512 ⟨0, 0, 0, 5⟩) (.write 0x34) Draw.zero).bound = true ∧
    (facing (inData ready .awaitingDataCrc2 512 ⟨0, 0, 0, 5⟩) (.write 0x34) Draw.zero).phase = .awaitingDataCrc2 ∧
    ∃ crc1, (decode Params.default .data (0xFE :: (Sector.fill 0).bytes ++ [crc1, 0x34])).toOption =
      some (.dataFrame (Sector.fill 0), []) := ⟨rfl, rfl, 0x12, by decide +kernel⟩
theorem witness_ParserTakesFrameBytes : (facing ready (.write 0x40) Draw.zero).bound = true ∧
    (facing ready (.write 0x40) Draw.zero).inputs = [⟨.write 0x40, Draw.zero⟩] ∧
    (facing ready (.write 0x40) Draw.zero).phase = .awaitingCommand ∧ 0x40 ≤ (0x7F : Byte).toNat ∧
    (facing { ready with phase := .awaitingArg0 } (.write 0x00) Draw.zero).phase = .awaitingArg0 ∧
    (facing { ready with phase := .awaitingArg1 } (.write 0x00) Draw.zero).phase = .awaitingArg1 ∧
    (facing { ready with phase := .awaitingArg2 } (.write 0x00) Draw.zero).phase = .awaitingArg2 ∧
    (facing { ready with phase := .awaitingArg3 } (.write 0x00) Draw.zero).phase = .awaitingArg3 :=
  ⟨rfl, rfl, rfl, by decide, rfl, rfl, rfl, rfl⟩
/-- The token phase, the first and the last payload byte, the first CRC byte. -/
theorem witness_DataPhaseTakesBytes : (facing (inData ready .awaitingDataToken 0 ⟨0, 0, 0, 5⟩) (.write 0xFE)
      Draw.zero).phase = .awaitingDataToken ∧
    (inData ready .awaitingData 0 ⟨0, 0, 0, 5⟩).payloadCount < 512 ∧
    (inData ready .awaitingData 511 ⟨0, 0, 0, 5⟩).payloadCount < 512 ∧
    (inData ready .awaitingDataCrc1 512 ⟨0, 0, 0, 5⟩).phase = .awaitingDataCrc1 := by decide
theorem witness_PhaseTransitionTable : CardInv (facing ready (.write 0x40) Draw.zero) ∧
    (facing ready (.write 0x40) Draw.zero).bound = true ∧ CardInv (facing ready .reset Draw.zero) ∧
    CardInv (inData ready .awaitingData 511 ⟨0, 0, 0, 5⟩) :=
  ⟨ready_facing_legal _ _, rfl, ready_facing_legal _ _, legal_of _ (by decide)⟩
theorem witness_WhatMovesThePhase : (CardInv ready ∧ ready.inputs = [] ∧ ∃ t, step ready = .next t) ∧
    CardInv (facing ready .read Draw.zero) ∧
    (∃ t, step (facing ready .read Draw.zero) = .next t) ∧ CardInv (facing ready (.bind "disk") Draw.zero) ∧
    ∃ t, step (facing ready (.bind "disk") Draw.zero) = .next t :=
  ⟨⟨ready_legal, rfl, _, rfl⟩, ready_facing_legal _ _, ⟨_, rfl⟩, ready_facing_legal _ _, _, rfl⟩
theorem witness_ReadPopsTheQueue : (facing ready .read Draw.zero).inputs = [⟨.read, Draw.zero⟩] ∧
    (facing ready .read Draw.zero).responseQueue = [] ∧
    (facing { ready with responseQueue := [0x01] } .read Draw.zero).responseQueue = 0x01 :: [] := ⟨rfl, rfl, rfl⟩
theorem witness_UnboundReadIsIdleLine : CardInv (facing State.reset .read Draw.zero) ∧
    (facing State.reset .read Draw.zero).bound = false ∧
    (facing State.reset .read Draw.zero).inputs = [⟨.read, Draw.zero⟩] := ⟨unbound_facing_legal _ _, rfl, rfl⟩
theorem witness_CrcReachesNoState : (atCrc ready 0 ⟨0, 0, 0, 0⟩).phase = .awaitingCrc ∧
    (inData ready .awaitingDataCrc1 512 ⟨0, 0, 0, 5⟩).phase = .awaitingDataCrc1 ∧
    (inData ready .awaitingDataCrc2 512 ⟨0, 0, 0, 5⟩).phase = .awaitingDataCrc2 := ⟨rfl, rfl, rfl⟩
theorem witness_EveryResponseIsListed : (atCrc idle 8 ⟨0, 0, 1, 0xAA⟩).inputs = [⟨.write 0xFF, Draw.zero⟩] ∧
    ∃ t, step (atCrc idle 8 ⟨0, 0, 1, 0xAA⟩) = .next t := ⟨rfl, _, rfl⟩
/-- A CMD0 frame, and ACMD41 frames on both sides of its condition, with the instructions they are. -/
theorem witness_WhatChangesInIdle : decodeFrame Params.default false 0 ⟨0, 0, 0, 0⟩ = .cmd0GoIdleState ⟨0, 0, 0, 0⟩ ∧
    decodeFrame Params.default true 41 ⟨0x40, 0, 0, 0⟩ = .acmd41SdSendOpCond ⟨0x40, 0, 0, 0⟩ ∧
    CardInv (atCrc ready 0 ⟨0, 0, 0, 0⟩) ∧
    CardInv (atAppCrc { idle with cmd8Seen := true } 41 ⟨0x40, 0, 0, 0⟩) ∧
    CardInv (atAppCrc { idle with cmd8Seen := true } 41 ⟨0xBF, 0xFF, 0xFF, 0xFF⟩) ∧
    CardInv (facing ready .reset Draw.zero) :=
  ⟨rfl, rfl, legal_of _ (by decide), legal_of _ (by decide), legal_of _ (by decide), ready_facing_legal _ _⟩
theorem witness_PrefixLastsOneDispatch : (atAppCrc ready 55 ⟨0, 0, 0, 0⟩).bound = true ∧
    (atAppCrc ready 55 ⟨0, 0, 0, 0⟩).inputs = [⟨.write 0xFF, Draw.zero⟩] ∧
    (atAppCrc ready 55 ⟨0, 0, 0, 0⟩).phase = .awaitingCrc ∧
    (facing ready (.write 0xFF) Draw.zero).phase ≠ .awaitingCrc := ⟨rfl, rfl, rfl, by decide⟩
theorem witness_DataPhaseKeepsTheCommand :
    CardInv (facing (inData ready .awaitingDataCrc2 512 ⟨0, 0, 0, 5⟩) (.write 0x34) Draw.zero) ∧
    (facing (inData ready .awaitingDataCrc2 512 ⟨0, 0, 0, 5⟩) (.write 0x34) Draw.zero).phase.isData = true ∧
    (facing (inData ready .awaitingDataCrc2 512 ⟨0, 0, 0, 5⟩) (.write 0x34) Draw.zero).inputs =
      [⟨.write 0x34, Draw.zero⟩] := ⟨legal_of _ (by decide), rfl, rfl⟩
/-- An attempted CMD0 after CMD24 (program P4). -/
theorem witness_DeafUntilTheToken : (∀ b ∈ ([0x40, 0x00, 0xFF] : List Byte), b ≠ 0xFE) ∧
    (inData ready .awaitingDataToken 0 ⟨0, 0, 0, 3⟩).phase = .awaitingDataToken ∧
    { inData ready .awaitingDataToken 0 ⟨0, 0, 0, 3⟩ with
      inputs := [⟨.write 0x40, Draw.zero⟩, ⟨.write 0x00, Draw.zero⟩, ⟨.write 0xFF, Draw.zero⟩] }.inputs =
      ([0x40, 0x00, 0xFF] : List Byte).map (fun b => ⟨.write b, Draw.zero⟩) ++ [] ∧
    ([0x40, 0x00, 0xFF] : List Byte) ≠ [] := ⟨by decide, rfl, rfl, by decide⟩
theorem witness_FrameBytesRunTheInstruction : ready.phase = .awaitingCommand ∧
    { ready with inputs := [⟨.write 0x51, Draw.zero⟩, ⟨.write 0x00, Draw.zero⟩, ⟨.write 0x00, Draw.zero⟩,
      ⟨.write 0x04, Draw.zero⟩, ⟨.write 0x00, Draw.zero⟩, ⟨.write 0xFF, Draw.zero⟩] }.inputs =
      [⟨.write 0x51, Draw.zero⟩, ⟨.write 0x00, Draw.zero⟩, ⟨.write 0x00, Draw.zero⟩, ⟨.write 0x04, Draw.zero⟩,
        ⟨.write 0x00, Draw.zero⟩, ⟨.write 0xFF, Draw.zero⟩] ++ [] ∧
    decode Params.default (.command ready.cmd55Seen) [0x51, 0x00, 0x00, 0x04, 0x00, 0xFF] =
      .ok (.cmd17ReadSingleBlock ⟨0, 0, 4, 0⟩, []) := ⟨rfl, rfl, rfl⟩
/-- One discarded byte, the token, the payload and two CRC bytes. -/
theorem witness_DataBytesRunTheDataFrame :
    (inData ready .awaitingDataToken 0 ⟨0, 0, 0, 5⟩).phase = .awaitingDataToken ∧
    (∀ b ∈ ([0xFD] : List Byte), b ≠ 0xFE) ∧
    (([0xFD] ++ 0xFE :: payload.bytes ++ [0x12]).map fun b => (⟨.write b, Draw.zero⟩ : Input)).map Input.call =
      ([0xFD] ++ 0xFE :: payload.bytes ++ [0x12]).map HostCall.write ∧
    { inData ready .awaitingDataToken 0 ⟨0, 0, 0, 5⟩ with
      inputs := (([0xFD] ++ 0xFE :: payload.bytes ++ [0x12]).map fun b => (⟨.write b, Draw.zero⟩ : Input)) ++
        (⟨.write 0x34, Draw.zero⟩ : Input) :: [] }.inputs =
      (([0xFD] ++ 0xFE :: payload.bytes ++ [0x12]).map fun b => (⟨.write b, Draw.zero⟩ : Input)) ++
        (⟨.write 0x34, Draw.zero⟩ : Input) :: [] :=
  ⟨rfl, by decide, by rw [List.map_map]; rfl, rfl⟩
theorem witness_EveryStepKeepsCardInv : CardInv (facing dirty .commit failing) ∧
    ∃ t, step (facing dirty .commit failing) = .next t := ⟨dirty_facing_legal _ _, _, rfl⟩
theorem witness_NoErrorCrossesTheBoundary : (facing ready .read Draw.zero).inputs = [⟨.read, Draw.zero⟩] ∧
    (facing ready (.write 0x00) Draw.zero).inputs = [⟨.write 0x00, Draw.zero⟩] := ⟨rfl, rfl⟩
theorem witness_OnlyBindAndUnbindChangeTheBinding : (∃ t, step (facing ready .reset Draw.zero) = .next t) ∧
    ∃ t, step (facing ready .unbind Draw.zero) = .next t := ⟨⟨_, rfl⟩, _, rfl⟩
/-- The last sector of the medium. -/
theorem witness_WrittenSectorReadsBack : CardInv { dirty with argument := ⟨0, 0, 3, 0xFF⟩ } ∧
    { dirty with argument := ⟨0, 0, 3, 0xFF⟩ }.bound = true ∧
    { dirty with argument := ⟨0, 0, 3, 0xFF⟩ }.draw.storeError = false ∧
    sectorIndex ⟨0, 0, 3, 0xFF⟩ < dirty.totalSectors.toNat :=
  ⟨⟨dirty_legal.params, dirty_legal.status, dirty_legal.buffers, dirty_legal.capacity, dirty_legal.unbound,
    dirty_legal.dataPhase, dirty_legal.store⟩, rfl, rfl, by decide⟩
theorem witness_CommitMakesWritesDurable : CardInv (facing dirty .commit Draw.zero) ∧
    (facing dirty .commit Draw.zero).bound = true ∧ Draw.zero.storeError = false ∧
    (facing dirty .commit Draw.zero).inputs = [⟨.commit, Draw.zero⟩] := ⟨dirty_facing_legal _ _, rfl, rfl, rfl⟩
theorem witness_FailedCommitLosesNoByte : CardInv (facing dirty .commit failing) ∧
    (facing dirty .commit failing).bound = true ∧ failing.storeError = true ∧
    (facing dirty .commit failing).inputs = [⟨.commit, failing⟩] := ⟨dirty_facing_legal _ _, rfl, rfl, rfl⟩
theorem witness_UnboundCommitIsOk : (facing State.reset .commit failing).bound = false ∧
    (facing State.reset .commit failing).inputs = [⟨.commit, failing⟩] := ⟨rfl, rfl⟩
/-- A dirty card, a clean one and an unbound one. -/
theorem witness_IsDirtyReportsTheCache : (facing dirty .isDirty Draw.zero).inputs = [⟨.isDirty, Draw.zero⟩] ∧
    dirty.cache ≠ [] ∧ (facing ready .isDirty Draw.zero).inputs = [⟨.isDirty, Draw.zero⟩] ∧ ready.cache = [] ∧
    (facing State.reset .isDirty Draw.zero).inputs = [⟨.isDirty, Draw.zero⟩] :=
  ⟨rfl, by simp [dirty], rfl, rfl, rfl⟩
theorem witness_ResetCallResult : (facing dirty .reset failing).inputs = [⟨.reset, failing⟩] := rfl
theorem witness_UnbindResult : CardInv (facing dirty .unbind failing) ∧
    (facing dirty .unbind failing).inputs = [⟨.unbind, failing⟩] ∧ CardInv (facing State.reset .unbind failing) :=
  ⟨dirty_facing_legal _ _, rfl, unbound_facing_legal _ _⟩
theorem witness_ParametersNeverChange : (∃ t, step (facing { ready with params := other } .reset Draw.zero) = .next t) ∧
    ∃ t, step (facing ready (.bind "disk") (medium 16 1 64 512)) = .next t := ⟨⟨_, rfl⟩, _, rfl⟩
/-- The largest accepted product and the next one (vectors M4 and M5), with a card bound before. -/
theorem witness_BindOutcome : CardInv (facing dirty (.bind "disk") (medium 65375 16 64 512)) ∧
    (facing dirty (.bind "disk") (medium 65375 16 64 512)).inputs = [⟨.bind "disk", medium 65375 16 64 512⟩] ∧
    66944000 = 65375 * 16 * 64 ∧ 66944000 / 1024 - 1 < 65375 ∧ 66945024 = 65376 * 16 * 64 ∧
    ¬66945024 / 1024 - 1 < 65375 := ⟨dirty_facing_legal _ _, rfl, by decide, by decide, by decide, by decide⟩
/-- An image that lists a byte twice, the last byte of the smallest medium, and the first address outside it. -/
theorem witness_BindOutcome_image : CardInv (facing ready (.bind "disk")
      { medium 16 1 64 512 with image := [(7, 0x11), (524287, 0x22), (7, 0x33), (524288, 0x44)] }) ∧
    (524287 < 512 * (16 * 1 * 64) ∧ ¬524288 < 512 * (16 * 1 * 64)) ∧
    ((([(7, 0x11), (524287, 0x22), (7, 0x33), (524288, 0x44)] : List Host.Cell).filter
      fun c => c.1 = 7).getLast?.map Prod.snd).getD Config.unlistedByte = 0x33 ∧
    see (step (facing ready (.bind "disk")
      { medium 16 1 64 512 with image := [(7, 0x11), (524287, 0x22), (7, 0x33), (524288, 0x44)] }))
      (fun t => (t.byteAt 7, t.byteAt 8, t.byteAt 524287)) = some (0x33, 0x00, 0x22) :=
  ⟨ready_facing_legal _ _, by decide, by decide, by decide +kernel⟩

end Sys2Proof.Tests
end

section
/-! PROOFS. What moves `command_state` (10_state.md R23). -/

namespace Sys2Proof.Machine

/-! ## The phase after the operations of a host call -/

@[simp] theorem State.storeFlush_phase (s : State) : s.storeFlush.phase = s.phase := by
  unfold State.storeFlush
  split <;> rfl

@[simp] theorem State.readByte_phase (s : State) : s.readByte.phase = s.phase := by
  unfold State.readByte
  split <;> rfl

@[simp] theorem State.commit_phase (s : State) : s.commit.phase = s.phase := by
  unfold State.commit
  split <;> simp

@[simp] theorem State.isDirty_phase (s : State) : s.isDirty.phase = s.phase := rfl

@[simp] theorem State.unbind_phase (s : State) : s.unbind.phase = .awaitingCommand := rfl

@[simp] theorem State.rejectMedium_phase (s : State) : s.rejectMedium.phase = s.phase := rfl

@[simp] theorem State.acceptMedium_phase (s : State) (g : Geometry) :
    (s.acceptMedium g).phase = .awaitingCommand := rfl

theorem UnboundClean.phase_eq {s : State} (hs : UnboundClean s) (hb : s.bound = false) :
    s.phase = .awaitingCommand := (hs hb).1

/-- UnboundClean reads no field that taking a call writes. -/
theorem UnboundClean.accept {s : State} (hs : UnboundClean s) (d : Draw) (rest : List Input) :
    UnboundClean (s.accept d rest) := hs

/-- bind() starts from `AwaitingCommand`: it unbinds a bound card first (R261), and an unbound one is there already. -/
theorem UnboundClean.unbind_if_bound_phase {s : State} (hs : UnboundClean s) :
    (if s.bound then s.unbind else s).phase = .awaitingCommand := by
  cases hb : s.bound
  · simpa using hs.phase_eq hb
  · simp

theorem UnboundClean.openMedium_phase {s : State} (hs : UnboundClean s) :
    s.openMedium.phase = .awaitingCommand := hs.unbind_if_bound_phase

/-- bind() ends in `AwaitingCommand` whichever way it ends. -/
theorem UnboundClean.bindMedium_phase {s : State} (hs : UnboundClean s) (path : String) :
    (s.bindMedium path).phase = .awaitingCommand := by
  obtain ⟨-, h⟩ | ⟨-, -, -, h⟩ | ⟨-, -, h⟩ := s.bindMedium_cases path
  · rw [h, State.answer_phase, hs.unbind_if_bound_phase]
  · rw [h, State.acceptMedium_phase]
  · rw [h, State.rejectMedium_phase, hs.openMedium_phase]

/-! ## The phase after a host call -/

/-- read, commit and is_dirty keep the phase (R23). -/
theorem perform_keeps_phase {c : HostCall} {s t : State} (h : perform c s = .next t)
    (hc : c = .read ∨ c = .commit ∨ c = .isDirty) : t.phase = s.phase := by
  obtain rfl | rfl | rfl := hc <;> cases h
  · exact s.readByte_phase
  · exact s.commit_phase
  · exact s.isDirty_phase

/-- reset, bind and unbind force `AwaitingCommand` (R23). -/
theorem perform_forces_awaitingCommand {c : HostCall} {s t : State} (hs : UnboundClean s)
    (h : perform c s = .next t) (hc : c = .reset ∨ (∃ path, c = .bind path) ∨ c = .unbind) :
    t.phase = .awaitingCommand := by
  obtain rfl | ⟨path, rfl⟩ | rfl := hc <;> cases h
  · exact s.resetBus_phase
  · exact hs.bindMedium_phase path
  · exact s.unbind_phase

/-- A call that moves the phase and does not force `AwaitingCommand` is a write at a bound card. -/
theorem perform_phase_cases {c : HostCall} {s t : State} (hs : UnboundClean s) (h : perform c s = .next t) :
    t.phase = s.phase ∨ t.phase = .awaitingCommand ∨ ((∃ b, c = .write b) ∧ s.bound = true) := by
  cases c with
  | write b =>
    cases hb : s.bound with
    | true => exact .inr (.inr ⟨⟨b, rfl⟩, rfl⟩)
    | false =>
      rw [perform_write, State.writeByte_unbound hb] at h
      cases h
      exact .inl rfl
  | read | commit | isDirty => exact .inl (perform_keeps_phase h (by simp))
  | reset | bind _ | unbind => exact .inr (.inl (perform_forces_awaitingCommand hs h (by simp)))

end Sys2Proof.Machine

namespace Sys2Proof.Proofs
open Sys2Proof.Machine

/-- Settles O27: with no call pending nothing happens; a pending call is performed at the accepted state, which has
the phase and the binding of `s`. -/
theorem whatMovesThePhase : Obligations.WhatMovesThePhase := by
  intro s t hinv hstep
  have hclean : ∀ d rest, UnboundClean (s.accept d rest) := hinv.unbound.accept
  have hidle : s.inputs = [] → t.phase = s.phase := fun hi => by
    rw [step_of_no_inputs hi] at hstep
    cases hstep
    rfl
  refine ⟨?_, hidle, fun c d rest hi => ?_⟩
  · cases hi : s.inputs with
    | nil => exact .inl (hidle hi)
    | cons inp rest =>
      obtain ⟨c, d⟩ := inp
      rw [step_of_input hi] at hstep
      obtain hkeep | hforce | ⟨⟨b, rfl⟩, hb⟩ := perform_phase_cases (hclean d rest) hstep
      · exact .inl hkeep
      · exact .inr (.inl hforce)
      · exact .inr (.inr ⟨b, d, rest, rfl, hb⟩)
  · rw [step_of_input hi] at hstep
    exact ⟨fun hc => (perform_keeps_phase hstep hc).trans (s.accept_phase d rest),
      perform_forces_awaitingCommand (hclean d rest) hstep⟩

end Sys2Proof.Proofs
end

section
/-! PROOFS. What a commit leaves in the store (20_memory.md R84). -/

namespace Sys2Proof.Machine

/-! ## The flush -/

/-- A flush that succeeds writes the whole cache to the medium and empties it (R69). -/
theorem State.storeFlush_ok {s : State} (hd : s.draw.storeError = false) :
    s.storeFlush = { s with medium := s.cache.flushInto s.medium, cache := [] } := by
  simp [State.storeFlush, hd]

/-- commit() at a bound card, when the flush succeeds (R258). -/
theorem State.commit_ok {s : State} (hb : s.bound = true) (hd : s.draw.storeError = false) :
    s.commit = { s with medium := s.cache.flushInto s.medium, cache := [], reply := .ok } := by
  rw [State.commit, if_pos hb, State.storeFlush_ok hd, hd]
  rfl

/-- The medium that the whole cache was written to holds the sector space. -/
theorem StoreCanonical.read_flushInto {s : State} (hs : StoreCanonical s) (a : Nat) :
    (s.cache.flushInto s.medium).read a = s.byteAt a := by
  obtain ⟨hmedium, hcache, -, -⟩ := hs
  exact Cache.read_flushInto hcache hmedium a

end Sys2Proof.Machine

namespace Sys2Proof.Proofs
open Sys2Proof.Machine

/-- Settles O44: the medium is the old one with the whole cache written to it. -/
theorem commitMakesWritesDurable : Obligations.CommitMakesWritesDurable := by
  intro s d rest hinv hb hd hi
  refine ⟨s.cache.flushInto s.medium, ?_, hinv.store.read_flushInto⟩
  have hcommit := State.commit_ok (s := s.accept d rest) hb hd
  rw [step_of_input hi, perform_commit, hcommit]
  rfl

end Sys2Proof.Proofs
end

section
/-! PROOFS. What a CRC byte does (30_encoding.md R94). -/

namespace Sys2Proof.Machine

/-- The phases in which the byte written is a CRC byte (41_parser.md R157, 45_block_transfer.md R228, R229). -/
def Phase.IsCrc (p : Phase) : Prop := p = .awaitingCrc ∨ p = .awaitingDataCrc1 ∨ p = .awaitingDataCrc2

theorem State.writeBound_of_awaitingCrc {s : State} (h : s.phase = .awaitingCrc) (b : Byte) :
    s.writeBound b = exec (decodeFrame s.params s.cmd55Seen s.currentCommand s.argument) s := by
  simp [State.writeBound, h]

theorem State.writeBound_of_awaitingDataCrc1 {s : State} (h : s.phase = .awaitingDataCrc1) (b : Byte) :
    s.writeBound b = .next (s.toPhase .awaitingDataCrc2) := by
  simp [State.writeBound, State.receiveDataCrc1, h]

theorem State.writeBound_of_awaitingDataCrc2 {s : State} (h : s.phase = .awaitingDataCrc2) (b : Byte) :
    s.writeBound b = exec (.dataFrame s.writePayload) s := by
  simp [State.writeBound, h]

/-- At a bound card a CRC byte completes, and one next state answers all its values. -/
theorem State.writeBound_crc {s : State} (h : s.phase.IsCrc) : ∃ t, ∀ b, s.writeBound b = .next t := by
  obtain h | h | h := h
  · obtain ⟨t, ht⟩ := exec_next (decodeFrame s.params s.cmd55Seen s.currentCommand s.argument) s
    exact ⟨t, fun b => (State.writeBound_of_awaitingCrc h b).trans ht⟩
  · exact ⟨s.toPhase .awaitingDataCrc2, State.writeBound_of_awaitingDataCrc1 h⟩
  · obtain ⟨t, ht⟩ := exec_next (.dataFrame s.writePayload) s
    exact ⟨t, fun b => (State.writeBound_of_awaitingDataCrc2 h b).trans ht⟩

/-- The same with or without a medium: an unbound card loses the byte (R140). -/
theorem State.writeByte_crc {s : State} (h : s.phase.IsCrc) : ∃ t, ∀ b, s.writeByte b = .next t := by
  cases hb : s.bound with
  | false => exact ⟨s, State.writeByte_unbound hb⟩
  | true =>
    obtain ⟨t, ht⟩ := State.writeBound_crc h
    exact ⟨t, fun b => (State.writeByte_bound hb b).trans (ht b)⟩

end Sys2Proof.Machine

namespace Sys2Proof.Proofs
open Sys2Proof.Machine

/-- Settles O30: taking the call removes the byte from the state, and one next state answers all bytes. -/
theorem crcReachesNoState : Obligations.CrcReachesNoState := by
  intro s b b' d rest hphase
  obtain ⟨t, ht⟩ := State.writeByte_crc (s := s.accept d rest) hphase
  have hstep (c : Byte) : step { s with inputs := ⟨.write c, d⟩ :: rest } = .next t := by
    rw [step_of_input rfl]
    exact ht c
  exact ⟨t, hstep b, hstep b'⟩

end Sys2Proof.Proofs
end

section
/-! PROOFS. The value of an argument (30_encoding.md R93). -/

namespace Sys2Proof.Machine

/-- No shift of `argval` loses a bit. -/
theorem argval_toNat_eq_or (a : Argument) :
    (argval a).toNat = a.a0.toNat <<< 24 ||| a.a1.toNat <<< 16 ||| a.a2.toNat <<< 8 ||| a.a3.toNat := by
  simp (disch := omega) only [argval, BitVec.toNat_or, BitVec.toNat_shiftLeft, BitVec.toNat_setWidth,
    Nat.mod_eq_of_lt]

/-- The four bytes do not overlap, so that the disjunction is a sum: from the last byte up, what stands below a byte
is smaller than that byte's unit. -/
theorem argval_toNat (a : Argument) :
    (argval a).toNat = a.a0.toNat * 2 ^ 24 + a.a1.toNat * 2 ^ 16 + a.a2.toNat * 2 ^ 8 + a.a3.toNat := by
  have h2 : a.a2.toNat <<< 8 + a.a3.toNat < 2 ^ 16 := by omega
  have h1 : a.a1.toNat <<< 16 + (a.a2.toNat <<< 8 + a.a3.toNat) < 2 ^ 24 := by omega
  rw [argval_toNat_eq_or, Nat.or_assoc, Nat.or_assoc, ← Nat.shiftLeft_add_eq_or_of_lt a.a3.isLt,
    ← Nat.shiftLeft_add_eq_or_of_lt h2, ← Nat.shiftLeft_add_eq_or_of_lt h1]
  omega

end Sys2Proof.Machine

namespace Sys2Proof.Proofs
open Sys2Proof.Machine

/-- Settles O52: the sector index is the argument's value by definition. -/
theorem argumentIsBigEndian : Obligations.ArgumentIsBigEndian :=
  fun a => ⟨argval_toNat a, argval_toNat a⟩

end Sys2Proof.Proofs
end

section
/-! PROOFS. What read() returns and takes (40_transport.md R142). -/

namespace Sys2Proof.Machine

/-- An empty queue answers with the idle-line byte and stays empty (R142). -/
theorem State.readByte_of_queue_nil {s : State} (h : s.responseQueue = []) :
    s.readByte = { s with reply := .byte 0xFF } := by
  simp only [State.readByte, h, State.answer, Config.idleLine]

/-- A queue that holds a byte gives up the front one (R142). -/
theorem State.readByte_of_queue_cons {s : State} {b : Byte} {q : List Byte} (h : s.responseQueue = b :: q) :
    s.readByte = { s with responseQueue := q, reply := .byte b } := by
  simp only [State.readByte, h]

end Sys2Proof.Machine

namespace Sys2Proof.Proofs
open Sys2Proof.Machine

/-- Settles O28: the accepted state has the queue of `s`, and read() splits on that queue alone, not on the phase or
the binding. -/
theorem readPopsTheQueue : Obligations.ReadPopsTheQueue := by
  intro s d rest hi
  have hstep : step s = .next (s.accept d rest).readByte := step_of_input hi
  refine ⟨fun hempty => ?_, fun b q hfront => ?_⟩
  · rw [hstep, State.readByte_of_queue_nil (s := s.accept d rest) hempty]
    rfl
  · rw [hstep, State.readByte_of_queue_cons (s := s.accept d rest) hfront]
    rfl

end Sys2Proof.Proofs
end

section
/-! PROOFS. The bytes the command parser takes or discards (41_parser.md R151–R156). -/

namespace Sys2Proof.Machine

/-- A write at a bound card is the phase rule at the accepted state (40_transport.md R141). -/
theorem step_write_bound {s : State} {b : Byte} {d : Draw} {rest : List Input}
    (hi : s.inputs = ⟨.write b, d⟩ :: rest) (hb : s.bound = true) : step s = (s.accept d rest).writeBound b := by
  rw [step_of_input hi, perform_write, State.writeByte_bound (s := s.accept d rest) hb]

/-! ## The phase rules, one lemma each -/

theorem State.writeBound_commandByte {s : State} (h : s.phase = .awaitingCommand) {b : Byte}
    (hc : isCommandByte b = true) : s.writeBound b = .next (s.startFrame b) := by
  simp [State.writeBound, h, hc]

theorem State.writeBound_of_awaitingArg0 {s : State} (h : s.phase = .awaitingArg0) (b : Byte) :
    s.writeBound b = .next (s.captureArg0 b) := by
  simp [State.writeBound, h]

theorem State.writeBound_of_awaitingArg1 {s : State} (h : s.phase = .awaitingArg1) (b : Byte) :
    s.writeBound b = .next (s.captureArg1 b) := by
  simp [State.writeBound, h]

theorem State.writeBound_of_awaitingArg2 {s : State} (h : s.phase = .awaitingArg2) (b : Byte) :
    s.writeBound b = .next (s.captureArg2 b) := by
  simp [State.writeBound, h]

theorem State.writeBound_of_awaitingArg3 {s : State} (h : s.phase = .awaitingArg3) (b : Byte) :
    s.writeBound b = .next (s.captureArg3 b) := by
  simp [State.writeBound, h]

/-! ## A byte that is no command byte -/

theorem isCommandByte_eq_false {b : Byte} (h : b.toNat < 0x40 ∨ 0x7F < b.toNat) : isCommandByte b = false := by
  rw [Bool.eq_false_iff, ne_eq, isCommandByte_iff_range]
  omega

theorem exec_invalidByte (b : Byte) (s : State) : exec (.invalidByte b) s = .next s := rfl

theorem State.writeBound_invalidByte {s : State} (h : s.phase = .awaitingCommand) {b : Byte}
    (hc : isCommandByte b = false) : s.writeBound b = .next s := by
  simp [State.writeBound, h, hc, exec_invalidByte]

/-- In `AwaitingCommand` the byte is lost with a medium (R152) and without one (R140). -/
theorem State.writeByte_invalidByte {s : State} (h : s.phase = .awaitingCommand) {b : Byte}
    (hc : isCommandByte b = false) : s.writeByte b = .next s := by
  cases hb : s.bound with
  | false => exact State.writeByte_unbound hb b
  | true => rw [State.writeByte_bound hb, State.writeBound_invalidByte h hc]

end Sys2Proof.Machine

namespace Sys2Proof.Proofs
open Sys2Proof.Machine

/-- Settles O17: the byte fails the framing test, so the decoder and the parser both discard it. -/
theorem invalidByteDiscarded : Obligations.InvalidByteDiscarded := by
  intro b s d rest hrange
  have hc : isCommandByte b = false := isCommandByte_eq_false hrange
  refine ⟨fun P p more => decodeCommand_invalid hc P p more, exec_invalidByte b s, fun hp hi => ?_⟩
  rw [step_of_input hi, perform_write, State.writeByte_invalidByte (s := s.accept d rest) hp hc]
  rfl

/-- Settles O24: one phase rule each, at the accepted state, which has the phase of `s`. -/
theorem parserTakesFrameBytes : Obligations.ParserTakesFrameBytes := by
  intro s b d rest hb hi
  rw [step_write_bound hi hb]
  refine ⟨fun hp hlo hhi => ?_, fun hp => ?_, fun hp => ?_, fun hp => ?_, fun hp => ?_⟩
  · rw [State.writeBound_commandByte (s := s.accept d rest) hp ((isCommandByte_iff_range b).2 ⟨hlo, hhi⟩)]
    rfl
  · rw [State.writeBound_of_awaitingArg0 (s := s.accept d rest) hp]
    rfl
  · rw [State.writeBound_of_awaitingArg1 (s := s.accept d rest) hp]
    rfl
  · rw [State.writeBound_of_awaitingArg2 (s := s.accept d rest) hp]
    rfl
  · rw [State.writeBound_of_awaitingArg3 (s := s.accept d rest) hp]
    rfl

end Sys2Proof.Proofs
end

section
/-! PROOFS. The transition table of `command_state` (41_parser.md R150). -/

namespace Sys2Proof.Machine

/-! ## The phase after a whole instruction -/

theorem State.dispatch_phase {s : State} (hb : s.bound = true) (n : BitVec 6) (arg : Argument) (p : Phase)
    (f : State → State) : (s.dispatch n arg p f).phase = p := by
  rw [State.dispatch_bound hb, State.toPhase_phase]

@[simp] theorem State.completeWrite_phase (s : State) : s.completeWrite.phase = s.phase := by
  obtain ⟨-, h⟩ | ⟨-, -, h⟩ | ⟨-, -, h⟩ := s.completeWrite_cases
  · rw [h, State.rejectRange_phase]
  · rw [h]
  · rw [h]

/-- The phase an instruction leaves at a bound card (42_dispatch.md R175; R152; 45_block_transfer.md R229). -/
def phaseAfter (i : Instr) (p : Phase) : Phase :=
  match i with
  | .invalidByte _ => p
  | .cmd24WriteBlock _ => .awaitingDataToken
  | _ => .awaitingCommand

theorem exec_phase {s : State} (hb : s.bound = true) (i : Instr) :
    ∃ t, exec i s = .next t ∧ t.phase = phaseAfter i s.phase := by
  cases i with
  | invalidByte b => exact ⟨s, rfl, rfl⟩
  | dataFrame p => exact ⟨_, rfl, by simp [hb, phaseAfter]⟩
  | _ => exact ⟨_, rfl, State.dispatch_phase hb _ _ _ _⟩

/-- A frame leaves `AwaitingCrc` for the data phase when it is CMD24, and else for the next command (R157). -/
theorem phaseAfter_decodeFrame (P : Params) (prefixed : Bool) (n : BitVec 6) (arg : Argument) (p : Phase) :
    phaseAfter (decodeFrame P prefixed n arg) p =
      if decodeFrame P prefixed n arg = .cmd24WriteBlock arg then .awaitingDataToken else .awaitingCommand := by
  rcases decodeFrame_cases P prefixed n arg with ⟨-, h⟩ | ⟨-, h⟩ | ⟨-, h⟩ | ⟨-, h⟩ | ⟨-, h⟩ | ⟨-, h⟩ | ⟨-, h⟩ |
    ⟨-, h⟩ | ⟨-, -, h⟩ | ⟨-, -, h⟩ | ⟨-, -, h⟩ | ⟨-, -, h⟩ | ⟨-, -, h⟩ | ⟨-, -, h⟩ | ⟨-, -, h⟩
  all_goals simp [h, phaseAfter]

/-! ## The phase after a data byte -/

theorem State.receiveToken_phase (s : State) (b : Byte) :
    (s.receiveToken b).phase = if b = 0xFE then .awaitingData else s.phase := by
  unfold State.receiveToken Config.dataToken
  split <;> rfl

/-- Below 512, the count reaches 512 at the byte that finds it at 511 (R227). -/
theorem State.receivePayload_phase_of_lt {s : State} (h : s.payloadCount < 512) (b : Byte) :
    (s.receivePayload b).phase = if s.payloadCount < 511 then s.phase else .awaitingDataCrc1 := by
  rw [State.receivePayload_phase]
  by_cases hlast : s.payloadCount + 1 = 512
  · rw [if_pos hlast, if_neg (by omega)]
  · rw [if_neg hlast, if_pos (by omega)]

/-! ## The table -/

/-- The thirteen rows of R150: the phase after a byte is written at a bound card. -/
def State.tablePhase (s : State) (b : Byte) : Phase :=
  match s.phase with
  | .awaitingCommand => if b &&& 0xC0 = 0x40 then .awaitingArg0 else .awaitingCommand
  | .awaitingArg0 => .awaitingArg1
  | .awaitingArg1 => .awaitingArg2
  | .awaitingArg2 => .awaitingArg3
  | .awaitingArg3 => .awaitingCrc
  | .awaitingCrc =>
    if decodeFrame s.params s.cmd55Seen s.currentCommand s.argument = .cmd24WriteBlock s.argument then
      .awaitingDataToken
    else .awaitingCommand
  | .awaitingDataToken => if b = 0xFE then .awaitingData else .awaitingDataToken
  | .awaitingData => if s.payloadCount < 511 then .awaitingData else .awaitingDataCrc1
  | .awaitingDataCrc1 => .awaitingDataCrc2
  | .awaitingDataCrc2 => .awaitingCommand

/-- A write at a bound card follows the table. Only a payload byte needs the state to be legal: its row takes the
count to be below 512. -/
theorem step_write_phase {s : State} {b : Byte} {d : Draw} {rest : List Input}
    (hi : s.inputs = ⟨.write b, d⟩ :: rest) (hb : s.bound = true) (hdata : DataPhaseConsistent s) :
    ∃ t, step s = .next t ∧ t.phase = s.tablePhase b := by
  have hexec := exec_phase (s := s.accept d rest) hb
  obtain ⟨hp, hc, h⟩ | ⟨hp, hc, h⟩ | ⟨hp, h⟩ | ⟨hp, h⟩ | ⟨hp, h⟩ | ⟨hp, h⟩ | ⟨hp, h⟩ | ⟨hp, h⟩ | ⟨hp, h⟩ | ⟨hp, h⟩ |
    ⟨hp, h⟩ := step_write_cases hi hb
  · have hmask := (isCommandByte_iff_mask b).1 hc
    exact ⟨_, h, by simpa [State.tablePhase, hp] using hmask⟩
  · have hmask := mt (isCommandByte_iff_mask b).2 (by simp [hc])
    exact ⟨_, h, by simpa [State.tablePhase, hp] using hmask⟩
  · exact ⟨_, h, by simp [State.tablePhase, hp]⟩
  · exact ⟨_, h, by simp [State.tablePhase, hp]⟩
  · exact ⟨_, h, by simp [State.tablePhase, hp]⟩
  · exact ⟨_, h, by simp [State.tablePhase, hp]⟩
  · obtain ⟨t, ht, hphase⟩ := hexec (decodeFrame s.params s.cmd55Seen s.currentCommand s.argument)
    exact ⟨t, h.trans ht, by simp [State.tablePhase, hp, hphase, phaseAfter_decodeFrame]⟩
  · exact ⟨_, h, by simp [State.tablePhase, hp, State.receiveToken_phase]⟩
  · obtain ⟨-, hcount, -⟩ := hdata
    have hphase := State.receivePayload_phase_of_lt (s := s.accept d rest) (hcount hp) b
    exact ⟨_, h, hphase.trans (by simp [State.tablePhase, hp])⟩
  · exact ⟨_, h, by simp [State.tablePhase, hp]⟩
  · obtain ⟨t, ht, hphase⟩ := hexec (.dataFrame s.writePayload)
    exact ⟨t, h.trans ht, by simp [State.tablePhase, hp, hphase, phaseAfter]⟩

end Sys2Proof.Machine

namespace Sys2Proof.Proofs
open Sys2Proof.Machine

/-- Settles O26: a write at a bound card follows the table, at an unbound one it is lost, and the calls that force
`AwaitingCommand` are no writes. -/
theorem phaseTransitionTable : Obligations.PhaseTransitionTable := by
  intro s c d rest hinv hi
  have hforce : ∀ t, perform c (s.accept d rest) = .next t →
      c = .reset ∨ (∃ path, c = .bind path) ∨ c = .unbind → t.phase = .awaitingCommand :=
    fun _ => perform_forces_awaitingCommand (hinv.unbound.accept d rest)
  have hstep := step_of_input hi
  cases c with
  | write b =>
    cases hb : s.bound with
    | false =>
      have hlost := State.writeByte_unbound (s := s.accept d rest) hb b
      exact ⟨_, hstep.trans hlost, by simp, by simp⟩
    | true =>
      obtain ⟨t, ht, hphase⟩ := step_write_phase hi hb hinv.dataPhase
      refine ⟨t, ht, fun b' hcall _ => ?_, by simp⟩
      cases hcall
      exact hphase
  | _ => exact ⟨_, hstep, by simp, hforce _ rfl⟩

end Sys2Proof.Proofs
end

section
/-! PROOFS. The bytes of a data frame before its second CRC byte (45_block_transfer.md R226–R228). -/

namespace Sys2Proof.Machine

theorem State.writeBound_of_awaitingDataToken {s : State} (h : s.phase = .awaitingDataToken) (b : Byte) :
    s.writeBound b = .next (s.receiveToken b) := by
  simp [State.writeBound, h]

theorem State.writeBound_of_awaitingData {s : State} (h : s.phase = .awaitingData) (b : Byte) :
    s.writeBound b = .next (s.receivePayload b) := by
  simp [State.writeBound, h]

/-- The 512th payload byte is the one that finds the count at 511 (R227). -/
theorem State.receivePayload_of_awaitingData {s : State} (h : s.phase = .awaitingData) (b : Byte) :
    s.receivePayload b = { s with
      writePayload := s.writePayload.setByte s.payloadCount b
      payloadCount := s.payloadCount + 1
      phase := if s.payloadCount = 511 then .awaitingDataCrc1 else .awaitingData } := by
  have hlast : s.payloadCount + 1 = 512 ↔ s.payloadCount = 511 := by omega
  simp only [State.receivePayload, hlast, h]

end Sys2Proof.Machine

namespace Sys2Proof.Proofs
open Sys2Proof.Machine

/-- Settles O25: one phase rule each, at the accepted state; the new payload is the old one with the byte put at the
count. -/
theorem dataPhaseTakesBytes : Obligations.DataPhaseTakesBytes := by
  intro s b d rest hb hi
  rw [step_write_bound hi hb]
  refine ⟨fun hp => ?_, fun hp hcount => ⟨s.writePayload.setByte s.payloadCount b, fun k => ?_, ?_⟩, fun hp => ?_⟩
  · rw [State.writeBound_of_awaitingDataToken (s := s.accept d rest) hp]
    rfl
  · rw [Sector.byte_setByte _ _ _ _ hcount]
    simp only [eq_comm]
  · rw [State.writeBound_of_awaitingData (s := s.accept d rest) hp,
      State.receivePayload_of_awaitingData (s := s.accept d rest) hp]
    rfl
  · rw [State.writeBound_of_awaitingDataCrc1 (s := s.accept d rest) hp]
    rfl

end Sys2Proof.Proofs
end

section
/-! PROOFS. Every step completes, and what write() and read() return (60_exceptions.md R285). -/

namespace Sys2Proof.Machine

/-! ## What an instruction returns: nothing of its own -/

@[simp] theorem State.readBlock_reply (s : State) : s.readBlock.reply = s.reply := by
  obtain ⟨-, h⟩ | ⟨-, -, h⟩ | ⟨-, -, h⟩ := s.readBlock_cases
  · rw [h, State.rejectRange_reply]
  · rw [h, State.respond_reply]
  · rw [h, State.respond_reply]

@[simp] theorem State.completeWrite_reply (s : State) : s.completeWrite.reply = s.reply := by
  obtain ⟨-, h⟩ | ⟨-, -, h⟩ | ⟨-, -, h⟩ := s.completeWrite_cases
  · rw [h, State.rejectRange_reply]
  · rw [h]
  · rw [h]

@[simp] theorem State.receiveToken_reply (s : State) (b : Byte) : (s.receiveToken b).reply = s.reply := by
  unfold State.receiveToken
  split <;> rfl

/-- A dispatch returns nothing of its own when its handler does not. -/
theorem State.dispatch_reply {f : State → State} (hf : ∀ t, (f t).reply = t.reply) (s : State) (n : BitVec 6)
    (arg : Argument) (p : Phase) : (s.dispatch n arg p f).reply = s.reply := by
  cases hb : s.bound with
  | false => rw [State.dispatch_unbound hb]
  | true => simp [State.dispatch_bound hb, hf]

/-- Every instruction completes, and a failure it finds goes to the response queue, not to what the call returns. -/
theorem exec_keeps_reply (i : Instr) (s : State) : ∃ t, exec i s = .next t ∧ t.reply = s.reply := by
  cases i with
  | invalidByte b => exact ⟨s, exec_invalidByte b s, rfl⟩
  | dataFrame p =>
    refine ⟨_, rfl, ?_⟩
    split <;> simp
  | acmd41SdSendOpCond arg =>
    refine ⟨_, rfl, State.dispatch_reply (fun t => ?_) _ _ _ _⟩
    rw [State.respondStatus_reply]
    split <;> rfl
  | _ => exact ⟨_, rfl, State.dispatch_reply (fun t => by simp) _ _ _ _⟩

/-! ## What write() and read() return -/

/-- At a bound card every phase rule completes and leaves the reply (R141, R150). -/
theorem State.writeBound_keeps_reply (s : State) (b : Byte) : ∃ t, s.writeBound b = .next t ∧ t.reply = s.reply := by
  cases hp : s.phase with
  | awaitingCommand =>
    cases hc : isCommandByte b with
    | true => exact ⟨_, State.writeBound_commandByte hp hc, s.startFrame_reply b⟩
    | false => exact ⟨s, State.writeBound_invalidByte hp hc, rfl⟩
  | awaitingArg0 => exact ⟨_, State.writeBound_of_awaitingArg0 hp b, s.captureArg0_reply b⟩
  | awaitingArg1 => exact ⟨_, State.writeBound_of_awaitingArg1 hp b, s.captureArg1_reply b⟩
  | awaitingArg2 => exact ⟨_, State.writeBound_of_awaitingArg2 hp b, s.captureArg2_reply b⟩
  | awaitingArg3 => exact ⟨_, State.writeBound_of_awaitingArg3 hp b, s.captureArg3_reply b⟩
  | awaitingCrc =>
    rw [State.writeBound_of_awaitingCrc hp]
    exact exec_keeps_reply _ s
  | awaitingDataToken => exact ⟨_, State.writeBound_of_awaitingDataToken hp b, s.receiveToken_reply b⟩
  | awaitingData => exact ⟨_, State.writeBound_of_awaitingData hp b, s.receivePayload_reply b⟩
  | awaitingDataCrc1 => exact ⟨_, State.writeBound_of_awaitingDataCrc1 hp b, s.toPhase_reply _⟩
  | awaitingDataCrc2 =>
    rw [State.writeBound_of_awaitingDataCrc2 hp]
    exact exec_keeps_reply _ s

/-- The same with or without a medium: an unbound card loses the byte (R140). -/
theorem State.writeByte_keeps_reply (s : State) (b : Byte) : ∃ t, s.writeByte b = .next t ∧ t.reply = s.reply := by
  cases hb : s.bound with
  | false => exact ⟨s, State.writeByte_unbound hb b, rfl⟩
  | true =>
    rw [State.writeByte_bound hb]
    exact s.writeBound_keeps_reply b

/-- read() returns a byte, whatever the queue holds (R142). -/
theorem State.readByte_reply (s : State) : ∃ b, s.readByte.reply = .byte b := by
  cases hq : s.responseQueue with
  | nil => exact ⟨0xFF, by rw [State.readByte_of_queue_nil hq]⟩
  | cons b q => exact ⟨b, by rw [State.readByte_of_queue_cons hq]⟩

end Sys2Proof.Machine

namespace Sys2Proof.Proofs
open Sys2Proof.Machine

/-- Settles O41: a step that has a next state does not stop, and the next state is given call by call. A taken call has
returned nothing yet, and a write leaves that so. -/
theorem noErrorCrossesTheBoundary : Obligations.NoErrorCrossesTheBoundary := by
  intro s
  suffices hnext : ∃ t, step s = .next t ∧ ∀ c d rest, s.inputs = ⟨c, d⟩ :: rest →
      ((∃ b, c = .write b) → t.reply = .nothing) ∧ (c = .read → ∃ b, t.reply = .byte b) by
    obtain ⟨t, ht, hreply⟩ := hnext
    exact ⟨fun hstops => hstops t ht, t, ht, hreply⟩
  cases hi : s.inputs with
  | nil => exact ⟨s, step_of_no_inputs hi, by simp⟩
  | cons inp rest =>
    obtain ⟨c, d⟩ := inp
    cases c with
    | write b =>
      obtain ⟨t, ht, hreply⟩ := (s.accept d rest).writeByte_keeps_reply b
      exact ⟨t, (step_of_input hi).trans ht, by simp [hreply]⟩
    | read => exact ⟨_, step_of_input hi, by simp [State.readByte_reply]⟩
    | reset | bind _ | unbind | commit | isDirty => exact ⟨_, step_of_input hi, by simp⟩

end Sys2Proof.Proofs
end

section
/-! PROOFS. The decoder and the encoder (30_encoding.md R90–R104). -/

namespace Sys2Proof

/-! ## What a command frame carries -/

/-- A command frame, and neither a discarded byte nor a data frame (R90). -/
def Instr.isFrame : Instr → Bool
  | .invalidByte _ | .dataFrame _ => false
  | _ => true

/-- The index that the frame of a command carries (R96, R97). -/
def Instr.index (P : Params) : Instr → BitVec 6
  | .cmd0GoIdleState _ => P.cmdIndex.cmd0
  | .cmd8SendIfCond _ => P.cmdIndex.cmd8
  | .cmd9SendCsd _ => P.cmdIndex.cmd9
  | .cmd10SendCid _ => P.cmdIndex.cmd10
  | .cmd17ReadSingleBlock _ => P.cmdIndex.cmd17
  | .cmd24WriteBlock _ => P.cmdIndex.cmd24
  | .cmd55AppCmd _ => P.cmdIndex.cmd55
  | .cmd58ReadOcr _ => P.cmdIndex.cmd58
  | .acmd13SdStatus _ => P.cmdIndex.acmd13
  | .acmd22SendNumWrBlocks _ => P.cmdIndex.acmd22
  | .acmd23SetWrBlkEraseCount _ => P.cmdIndex.acmd23
  | .acmd42SetClrCardDetect _ => P.cmdIndex.acmd42
  | .acmd51SendScr _ => P.cmdIndex.acmd51
  | .acmd41SdSendOpCond _ => P.cmdIndex.acmd41
  | .illegal n _ => n
  | .invalidByte _ | .dataFrame _ => 0

/-- The argument that the frame of a command carries (R93). -/
def Instr.arg : Instr → Argument
  | .cmd0GoIdleState a | .cmd8SendIfCond a | .cmd9SendCsd a | .cmd10SendCid a | .cmd17ReadSingleBlock a
  | .cmd24WriteBlock a | .cmd55AppCmd a | .cmd58ReadOcr a | .acmd13SdStatus a | .acmd22SendNumWrBlocks a
  | .acmd23SetWrBlkEraseCount a | .acmd42SetClrCardDetect a | .acmd51SendScr a | .acmd41SdSendOpCond a
  | .illegal _ a => a
  | .invalidByte _ | .dataFrame _ => ⟨0, 0, 0, 0⟩

/-- A command's bytes are the frame of its index and argument. -/
theorem encode_of_isFrame {i : Instr} (h : i.isFrame = true) (P : Params) (crc1 crc2 : Byte) :
    encode P i crc1 crc2 = encodeFrame (i.index P) i.arg crc1 := by
  cases i with
  | invalidByte _ | dataFrame _ => cases h
  | _ => rfl

/-- What a frame decodes to is a well-formed command that carries the frame's index and argument. -/
theorem decodeFrame_carries (P : Params) (p : Bool) (n : BitVec 6) (arg : Argument) :
    (decodeFrame P p n arg).isFrame = true ∧ (decodeFrame P p n arg).index P = n ∧
      (decodeFrame P p n arg).arg = arg ∧ (decodeFrame P p n arg).WellFormed P = true := by
  rcases decodeFrame_cases P p n arg with ⟨hn, h⟩ | ⟨hn, h⟩ | ⟨hn, h⟩ | ⟨hn, h⟩ | ⟨hn, h⟩ | ⟨hn, h⟩ | ⟨hn, h⟩ |
    ⟨hn, h⟩ | ⟨-, hn, h⟩ | ⟨-, hn, h⟩ | ⟨-, hn, h⟩ | ⟨-, hn, h⟩ | ⟨-, hn, h⟩ | ⟨-, hn, h⟩ | ⟨hn, -, h⟩
  all_goals
    rw [h]
    simp [hn, Instr.isFrame, Instr.index, Instr.arg, Instr.WellFormed]

/-! ## Which tier answers (R97, R98) -/

theorem decodeApp_of_not_mem {P : Params} {n : BitVec 6} (h : n ∉ P.cmdIndex.app) (arg : Argument) :
    decodeApp P n arg = none := by
  simp only [CommandIndices.app, List.mem_cons, List.not_mem_nil, or_false, not_or] at h
  simp [decodeApp, h]

/-- Without CMD55, or at an index that is none of the application indices, the standard tier answers (R173, R174). -/
theorem decodeFrame_eq_standard {P : Params} {p : Bool} {n : BitVec 6} (h : p = true → n ∉ P.cmdIndex.app)
    (arg : Argument) : decodeFrame P p n arg = decodeStandard P n arg := by
  cases p with
  | false => rfl
  | true => simp [decodeFrame, decodeApp_of_not_mem (h rfl)]

theorem decodeFrame_illegal {P : Params} {p : Bool} {n : BitVec 6} (hs : n ∉ P.cmdIndex.standard)
    (ha : p = true → n ∉ P.cmdIndex.app) (arg : Argument) : decodeFrame P p n arg = .illegal n arg := by
  rw [decodeFrame_eq_standard ha]
  simp only [CommandIndices.standard, List.mem_cons, List.not_mem_nil, or_false, not_or] at hs
  simp [decodeStandard, hs]

/-- No standard index is an application index. -/
theorem Params.Legal.not_mem_app {P : Params} (hP : P.Legal) {n : BitVec 6} (h : n ∈ P.cmdIndex.standard) :
    n ∉ P.cmdIndex.app :=
  fun ha => List.disjoint_of_nodup_append hP.1 h ha

/-- Each standard index is its own command's, after CMD55 or not: the indices before it differ from it. -/
theorem Params.Legal.decodeFrame_standard {P : Params} (hP : P.Legal) (p : Bool) (arg : Argument) :
    decodeFrame P p P.cmdIndex.cmd0 arg = .cmd0GoIdleState arg ∧
    decodeFrame P p P.cmdIndex.cmd8 arg = .cmd8SendIfCond arg ∧
    decodeFrame P p P.cmdIndex.cmd9 arg = .cmd9SendCsd arg ∧
    decodeFrame P p P.cmdIndex.cmd10 arg = .cmd10SendCid arg ∧
    decodeFrame P p P.cmdIndex.cmd17 arg = .cmd17ReadSingleBlock arg ∧
    decodeFrame P p P.cmdIndex.cmd24 arg = .cmd24WriteBlock arg ∧
    decodeFrame P p P.cmdIndex.cmd55 arg = .cmd55AppCmd arg ∧
    decodeFrame P p P.cmdIndex.cmd58 arg = .cmd58ReadOcr arg := by
  have htier : ∀ n ∈ P.cmdIndex.standard, decodeFrame P p n arg = decodeStandard P n arg :=
    fun n hn => decodeFrame_eq_standard (fun _ => hP.not_mem_app hn) arg
  have hdistinct : P.cmdIndex.standard.Nodup := (List.nodup_append.1 hP.1).1
  simp only [CommandIndices.standard, List.forall_mem_cons] at htier
  obtain ⟨h0, h8, h9, h10, h17, h24, h55, h58, -⟩ := htier
  rw [h0, h8, h9, h10, h17, h24, h55, h58]
  simp only [CommandIndices.standard, List.nodup_cons, List.mem_cons, List.not_mem_nil, or_false, not_or] at hdistinct
  simp [decodeStandard, hdistinct, Ne.symm]

/-- Each application index is its own command's: the other application indices differ from it. -/
theorem Params.Legal.decodeFrame_app {P : Params} (hP : P.Legal) (arg : Argument) :
    decodeFrame P true P.cmdIndex.acmd13 arg = .acmd13SdStatus arg ∧
    decodeFrame P true P.cmdIndex.acmd22 arg = .acmd22SendNumWrBlocks arg ∧
    decodeFrame P true P.cmdIndex.acmd23 arg = .acmd23SetWrBlkEraseCount arg ∧
    decodeFrame P true P.cmdIndex.acmd41 arg = .acmd41SdSendOpCond arg ∧
    decodeFrame P true P.cmdIndex.acmd42 arg = .acmd42SetClrCardDetect arg ∧
    decodeFrame P true P.cmdIndex.acmd51 arg = .acmd51SendScr arg := by
  have hdistinct : P.cmdIndex.app.Nodup := (List.nodup_append.1 hP.1).2.1
  simp only [CommandIndices.app, List.nodup_cons, List.mem_cons, List.not_mem_nil, or_false, not_or] at hdistinct
  simp [decodeFrame, decodeApp, hdistinct, Ne.symm]

/-- A well-formed command's index and argument decode to it, in its mode (R98). -/
theorem Params.Legal.decodeFrame_index {P : Params} (hP : P.Legal) {i : Instr} (hi : i.isFrame = true)
    (hw : i.WellFormed P = true) {p : Bool} (hm : modeOf i = .command p) : decodeFrame P p (i.index P) i.arg = i := by
  obtain ⟨h0, h8, h9, h10, h17, h24, h55, h58⟩ := hP.decodeFrame_standard p i.arg
  obtain ⟨h13, h22, h23, h41, h42, h51⟩ := hP.decodeFrame_app i.arg
  cases i with
  | cmd0GoIdleState _ => exact h0
  | cmd8SendIfCond _ => exact h8
  | cmd9SendCsd _ => exact h9
  | cmd10SendCid _ => exact h10
  | cmd17ReadSingleBlock _ => exact h17
  | cmd24WriteBlock _ => exact h24
  | cmd55AppCmd _ => exact h55
  | cmd58ReadOcr _ => exact h58
  | acmd13SdStatus _ => cases hm; exact h13
  | acmd22SendNumWrBlocks _ => cases hm; exact h22
  | acmd23SetWrBlkEraseCount _ => cases hm; exact h23
  | acmd42SetClrCardDetect _ => cases hm; exact h42
  | acmd51SendScr _ => cases hm; exact h51
  | acmd41SdSendOpCond _ => cases hm; exact h41
  | illegal n _ =>
    cases hm
    exact decodeFrame_illegal (n := n) (by simpa [Instr.WellFormed] using hw) (by simp) _
  | invalidByte _ | dataFrame _ => cases hi

/-! ## One command stream (R90, R99) -/

/-- The six bytes of a frame, its command byte written out, decode to the frame's command. -/
theorem decode_frameBytes (P : Params) (p : Bool) (n : BitVec 6) (arg : Argument) (crc : Byte) :
    decode P (.command p) [0x40 ||| n.setWidth 8, arg.a0, arg.a1, arg.a2, arg.a3, crc] =
      .ok (decodeFrame P p n arg, []) := by
  rw [commandByte_eq_or]
  exact decodeCommand_encodeFrame P p n arg crc []

/-- A command stream gives up one discarded byte or one whole frame. -/
theorem decode_command_cases {P : Params} {p : Bool} {bs rest : List Byte} {i : Instr}
    (h : decode P (.command p) bs = .ok (i, rest)) :
    (∃ b, isCommandByte b = false ∧ bs = b :: rest ∧ i = .invalidByte b) ∨
    (∃ n arg crc, bs = encodeFrame n arg crc ++ rest ∧ i = decodeFrame P p n arg) := by
  simp only [decode, decodeCommand] at h
  split at h
  · cases h
  · split at h
    next b rest' hb =>
      split at h
      next a0 a1 a2 a3 crc rest'' =>
        cases h
        refine .inr ⟨commandIndex b, ⟨a0, a1, a2, a3⟩, crc, ?_, rfl⟩
        simp [encodeFrame, commandByte_commandIndex b hb]
      · cases h
    next b rest' hb =>
      cases h
      exact .inl ⟨b, by simpa using hb, rfl, rfl⟩

/-! ## The data frame (R103) -/

/-- The token, a payload and two CRC bytes are the payload's data frame. -/
theorem decodeData_frame (payload : Sector) (crc1 crc2 : Byte) (rest : List Byte) :
    decodeData (0xFE :: (payload.bytes ++ crc1 :: crc2 :: rest)) = .ok (.dataFrame payload, rest) := by
  simp [decodeData, Config.dataToken, takeSector_bytes]

/-- Bytes before the token are discarded. -/
theorem decodeData_append {junk : List Byte} (hj : ∀ b ∈ junk, b ≠ 0xFE) (bs : List Byte) :
    decodeData (junk ++ bs) = decodeData bs := by
  induction junk with
  | nil => rfl
  | cons b junk ih =>
    rw [List.forall_mem_cons] at hj
    have hb : b ≠ Config.dataToken := hj.1
    rw [List.cons_append, decodeData, if_neg hb, ih hj.2]

end Sys2Proof

namespace Sys2Proof.Proofs
open Sys2Proof.Machine Sys2Proof.Claims

/-- Settles O1: a command is decoded from its index and argument, a discarded byte by the framing test, a data frame
from its token on. -/
theorem decodeOfEncode : Obligations.DecodeOfEncode := by
  intro P i crc1 crc2 rest hP hw
  by_cases hi : i.isFrame = true
  · obtain ⟨p, hm⟩ : ∃ p, modeOf i = .command p := by
      cases i with
      | dataFrame _ => cases hi
      | _ => exact ⟨_, rfl⟩
    rw [hm, encode_of_isFrame hi, decode, decodeCommand_encodeFrame, hP.decodeFrame_index hi hw hm]
  · cases i with
    | invalidByte b =>
      have hb : isCommandByte b = false := by simpa [Instr.WellFormed, isCommandByte] using hw
      exact decodeCommand_invalid hb P false rest
    | dataFrame payload => simpa [encode, decode, modeOf] using decodeData_frame payload crc1 crc2 rest
    | _ => exact absurd rfl hi

/-- Settles O2: what the stream gives up is a discarded byte or a frame, and a frame's command carries what the frame
does. -/
theorem decodedBytesAreTheEncoding : Obligations.DecodedBytesAreTheEncoding := by
  intro P p bs rest i h
  obtain ⟨b, hb, rfl, rfl⟩ | ⟨n, arg, crc, rfl, rfl⟩ := decode_command_cases h
  · exact ⟨by simpa [Instr.WellFormed, isCommandByte] using hb, 0, rfl⟩
  · obtain ⟨hframe, hindex, harg, hwf⟩ := decodeFrame_carries P p n arg
    exact ⟨hwf, crc, by rw [encode_of_isFrame hframe, hindex, harg]⟩

/-- Settles O3: the junk is discarded byte by byte, and what is left starts at the token or is nothing. -/
theorem dataFrameStartsAtTheToken : Obligations.DataFrameStartsAtTheToken := by
  intro P junk rest payload crc1 crc2 hj
  constructor
  · simpa [decode, decodeData_append hj] using decodeData_frame payload crc1 crc2 rest
  · simpa [decode, decodeData] using decodeData_append hj []

/-- Settles O5: the tiers' answers at each index; the default indices are legal and are written out. -/
theorem decodeSelectsOneHandler : Obligations.DecodeSelectsOneHandler := by
  refine ⟨fun P arg hP => ⟨hP.decodeFrame_app arg, fun p => hP.decodeFrame_standard p arg,
    fun p n hs ha => decodeFrame_illegal hs ha arg⟩, fun p n arg => ?_⟩
  rcases decodeFrame_cases Params.default p n arg with ⟨hn, h⟩ | ⟨hn, h⟩ | ⟨hn, h⟩ | ⟨hn, h⟩ | ⟨hn, h⟩ | ⟨hn, h⟩ |
    ⟨hn, h⟩ | ⟨hn, h⟩ | ⟨hp, hn, h⟩ | ⟨hp, hn, h⟩ | ⟨hp, hn, h⟩ | ⟨hp, hn, h⟩ | ⟨hp, hn, h⟩ | ⟨hp, hn, h⟩ | ⟨hs, ha, h⟩
  case inr.inr.inr.inr.inr.inr.inr.inr.inr.inr.inr.inr.inr.inr =>
    have happ : p = true → n ∉ ([13, 22, 23, 41, 42, 51] : List (BitVec 6)) := ha
    rw [h, if_neg fun hpn => happ hpn.1 hpn.2]
    simp only [CommandIndices.standard, Params.default, List.mem_cons, List.not_mem_nil, or_false, not_or] at hs
    split
    case h_9 => rfl
    all_goals exfalso; bv_omega
  all_goals rw [h]; subst hn; simp [Params.default, *]

/-- Settles O4: each word is decoded by evaluation. -/
theorem tableWordsDecode : Obligations.TableWordsDecode := by
  unfold Obligations.TableWordsDecode
  decide +kernel

end Sys2Proof.Proofs
end

section
/-! PROOFS. What each command does: one handler, run in the one frame of every dispatch (42_dispatch.md R170–R176). -/

namespace Sys2Proof.Machine
open Sys2Proof.Claims

/-! ## The handlers -/

/-- What a command does between the transient clear and the next phase (R172–R174); the two instructions that are no
command frame have no handler. -/
def handler : Instr → State → State
  | .cmd0GoIdleState _, t => (t.setIdleOnly.setCmd8Seen false).respondStatus
  | .cmd8SendIfCond _, t => (t.setCmd8Seen true).respond (r7Response t.status (echoByte t.argument))
  | .cmd9SendCsd _, t => t.respond (dataBlock t.status (csdRegister t.params.csdTemplate t.capacityField))
  | .cmd10SendCid _, t => t.respond (dataBlock t.status cidRegister)
  | .cmd17ReadSingleBlock _, t => t.readBlock
  | .cmd24WriteBlock _, t => t.respondStatus
  | .cmd55AppCmd _, t => (t.setCmd55Seen true).respondStatus
  | .cmd58ReadOcr _, t => t.respond (ocrResponse t.status t.params.ocrBytes)
  | .acmd41SdSendOpCond _, t =>
    (if t.cmd8Seen && hostCapacitySupport t.params.hcsBit t.argument then t.leaveIdle else t).respondStatus
  | .acmd13SdStatus _, t | .acmd22SendNumWrBlocks _, t | .acmd23SetWrBlkEraseCount _, t | .acmd42SetClrCardDetect _, t
  | .acmd51SendScr _, t | .illegal _ _, t => t.rejectCommand
  | .invalidByte _, t | .dataFrame _, t => t

/-- ACMD41's condition as its rule has it (R206). -/
theorem handler_acmd41 (arg : Argument) (t : State) :
    handler (.acmd41SdSendOpCond arg) t =
      (if t.cmd8Seen = true ∧ (argval t.argument).getLsbD t.params.hcsBit = true then t.leaveIdle
        else t).respondStatus := by
  simp only [handler, hostCapacitySupport, Bool.and_eq_true]

/-- A command dispatches its handler with its own index, argument and next phase. -/
theorem exec_of_isFrame {i : Instr} (hi : i.isFrame = true) (s : State) :
    exec i s = .next (s.dispatch (i.index s.params) i.arg (phaseAfter i s.phase) (handler i)) := by
  cases i with
  | invalidByte _ | dataFrame _ => cases hi
  | _ => rfl

/-- A handler writes the status, the queue and the session flags, and nothing else (R176). -/
theorem handler_frame (i : Instr) (t : State) :
    handler i t = { t with
      status := (handler i t).status
      responseQueue := (handler i t).responseQueue
      cmd8Seen := (handler i t).cmd8Seen
      cmd55Seen := (handler i t).cmd55Seen } := by
  cases i with
  | cmd17ReadSingleBlock _ =>
    simp only [handler]
    obtain ⟨-, h⟩ | ⟨-, -, h⟩ | ⟨-, -, h⟩ := t.readBlock_cases
    all_goals
      rw [h]
      rfl
  | acmd41SdSendOpCond _ =>
    simp only [handler]
    split <;> rfl
  | _ => rfl

theorem State.readBlock_toPhase (t : State) (p : Phase) : t.readBlock.toPhase p = (t.toPhase p).readBlock := by
  have hrange : (t.toPhase p).inRange = t.inRange := rfl
  have hread : (t.toPhase p).storeRead (sectorIndex (t.toPhase p).argument) = t.storeRead (sectorIndex t.argument) :=
    rfl
  simp only [State.readBlock, hrange, hread]
  split
  · split <;> rfl
  · rfl

/-- No handler reads or writes the phase. -/
theorem handler_toPhase (i : Instr) (t : State) (p : Phase) :
    (handler i t).toPhase p = handler i (t.toPhase p) := by
  cases i with
  | cmd17ReadSingleBlock _ => exact t.readBlock_toPhase p
  | acmd41SdSendOpCond _ =>
    cases hc : t.cmd8Seen && hostCapacitySupport t.params.hcsBit t.argument <;>
      simp only [handler, State.toPhase_cmd8Seen, State.toPhase_params, State.toPhase_argument, hc] <;> rfl
  | _ => rfl

/-- Only CMD0 and CMD8 write `cmd8_seen` (R33). -/
theorem handler_cmd8Seen {i : Instr} (hi : ∀ arg, i ≠ .cmd0GoIdleState arg ∧ i ≠ .cmd8SendIfCond arg) (t : State) :
    (handler i t).cmd8Seen = t.cmd8Seen := by
  cases i with
  | cmd0GoIdleState arg => exact absurd rfl (hi arg).1
  | cmd8SendIfCond arg => exact absurd rfl (hi arg).2
  | cmd17ReadSingleBlock _ =>
    obtain ⟨-, h⟩ | ⟨-, -, h⟩ | ⟨-, -, h⟩ := t.readBlock_cases
    all_goals simp [handler, h]
  | acmd41SdSendOpCond _ =>
    simp only [handler]
    split <;> rfl
  | _ => rfl

/-! ## A command at a bound card -/

theorem phaseAfter_of_isFrame {i : Instr} (hi : i.isFrame = true) (p q : Phase) : phaseAfter i p = phaseAfter i q := by
  cases i with
  | invalidByte _ | dataFrame _ => cases hi
  | _ => rfl

/-- The state a command's handler starts from: all that every dispatch writes (R170–R175). -/
def dispatchBase (i : Instr) (s : State) : State :=
  { dispatched s (i.index s.params) i.arg with phase := phaseAfter i s.phase }

/-- At a bound card a command is its handler, run after all that every dispatch writes. -/
theorem exec_eq_handler {i : Instr} (hi : i.isFrame = true) {s : State} (hb : s.bound = true) :
    exec i s = .next (handler i (dispatchBase i s)) := by
  rw [exec_of_isFrame hi, State.dispatch_bound hb, handler_toPhase]
  rfl

/-- A frame written to an unbound card is lost, and so is every other instruction (40_transport.md R140). -/
theorem exec_unbound {s : State} (hb : s.bound = false) (i : Instr) : exec i s = .next s := by
  cases i with
  | invalidByte b => exact exec_invalidByte b s
  | dataFrame p => simp [exec, execDataFrame, hb]
  | _ => rw [exec_of_isFrame rfl, State.dispatch_unbound hb]

/-- A command writes its registers, the phase, the status, the queue and the session flags, and nothing else. -/
theorem exec_isFrame_frame {i : Instr} (hi : i.isFrame = true) {s t : State} (h : exec i s = .next t) :
    t = { s with
      phase := t.phase
      status := t.status
      currentCommand := t.currentCommand
      argument := t.argument
      responseQueue := t.responseQueue
      cmd8Seen := t.cmd8Seen
      cmd55Seen := t.cmd55Seen } := by
  obtain hb | hb := Bool.eq_false_or_eq_true s.bound
  · rw [exec_eq_handler hi hb] at h
    cases h
    rw [handler_frame]
    rfl
  · rw [exec_unbound hb] at h
    cases h
    rfl

/-! ## The data frame -/

/-- The write completion writes the status, the queue and the cache, and nothing else. -/
theorem State.completeWrite_frame (s : State) :
    s.completeWrite = { s with
      status := s.completeWrite.status
      responseQueue := s.completeWrite.responseQueue
      cache := s.completeWrite.cache } := by
  obtain ⟨-, h⟩ | ⟨-, -, h⟩ | ⟨-, -, h⟩ := s.completeWrite_cases
  · rw [h]
    rfl
  · rw [h]
  · rw [h]

/-- A data frame at a bound card completes the write of its payload (45_block_transfer.md R229). -/
theorem exec_dataFrame {s : State} (hb : s.bound = true) (payload : Sector) :
    exec (.dataFrame payload) s = .next ((s.latchPayload payload).toPhase .awaitingCommand).completeWrite := by
  simp [exec, execDataFrame, hb]

/-- A data frame writes the phase, the status, the queue, the payload buffer and the cache, and nothing else. -/
theorem exec_dataFrame_frame {payload : Sector} {s t : State} (h : exec (.dataFrame payload) s = .next t) :
    t = { s with
      phase := t.phase
      status := t.status
      responseQueue := t.responseQueue
      writePayload := t.writePayload
      payloadCount := t.payloadCount
      cache := t.cache } := by
  obtain hb | hb := Bool.eq_false_or_eq_true s.bound
  · rw [exec_dataFrame hb] at h
    cases h
    rw [State.completeWrite_frame]
    rfl
  · rw [exec_unbound hb] at h
    cases h
    rfl

/-! ## The bytes of a command, under legal parameters -/

theorem standardFrame {index : CommandIndices → BitVec 6} {b0 : Byte} {mk : Argument → Instr}
    (hb0 : 0x40 ||| (index Params.default.cmdIndex).setWidth 8 = b0)
    (h : ∀ P : Params, P.Legal → ∀ p arg, decodeFrame P p (index P.cmdIndex) arg = mk arg) :
    StandardFrame index b0 mk :=
  ⟨hb0, fun P hP p arg crc => by rw [decode_frameBytes, h P hP]⟩

theorem appFrame {index : CommandIndices → BitVec 6} {b0 : Byte} {mk : Argument → Instr}
    (hb0 : 0x40 ||| (index Params.default.cmdIndex).setWidth 8 = b0)
    (h : ∀ P : Params, P.Legal → ∀ arg, decodeFrame P true (index P.cmdIndex) arg = mk arg) :
    AppFrame index b0 mk :=
  ⟨hb0, fun P hP arg crc => by rw [decode_frameBytes, h P hP]⟩

end Sys2Proof.Machine

namespace Sys2Proof.Proofs
open Sys2Proof.Machine Sys2Proof.Claims

/-! ## The standard commands -/

/-- Settles O6: CMD0's handler after the dispatch. -/
theorem goIdleResult : Obligations.GoIdleResult := by
  refine ⟨standardFrame (by decide) fun P hP p arg => ?_, fun arg s hb => exec_eq_handler rfl hb⟩
  obtain ⟨h, -⟩ := hP.decodeFrame_standard p arg
  exact h

/-- Settles O7: CMD8's handler after the dispatch. -/
theorem sendIfCondResult : Obligations.SendIfCondResult := by
  refine ⟨standardFrame (by decide) fun P hP p arg => ?_, fun arg s hb => exec_eq_handler rfl hb⟩
  obtain ⟨-, h, -⟩ := hP.decodeFrame_standard p arg
  exact h

/-- Settles O8: the register is the template byte by byte, but for C_SIZE; the default template is evaluated. -/
theorem sendCsdResult : Obligations.SendCsdResult := by
  refine ⟨standardFrame (by decide) fun P hP p arg => ?_, fun arg s hb csd hcsd => ⟨?_, fun hdefault => ?_⟩⟩
  · obtain ⟨-, -, h, -⟩ := hP.decodeFrame_standard p arg
    exact h
  · rw [exec_eq_handler rfl hb, hcsd, ← csdRegister_eq]
    rfl
  · rw [hcsd, hdefault]
    rfl

/-- Settles O9: CMD10's handler after the dispatch. -/
theorem sendCidResult : Obligations.SendCidResult := by
  refine ⟨standardFrame (by decide) fun P hP p arg => ?_, fun arg s hb => exec_eq_handler rfl hb⟩
  obtain ⟨-, -, -, h, -⟩ := hP.decodeFrame_standard p arg
  exact h

/-- Settles O10: CMD58's handler after the dispatch. -/
theorem readOcrResult : Obligations.ReadOcrResult := by
  refine ⟨standardFrame (by decide) fun P hP p arg => ?_, fun arg s hb => ⟨exec_eq_handler rfl hb, fun hdefault => ?_⟩⟩
  · obtain ⟨-, -, -, -, -, -, -, h⟩ := hP.decodeFrame_standard p arg
    exact h
  · rw [hdefault]
    rfl

/-- Settles O11: CMD55's handler after the dispatch. -/
theorem appCmdResult : Obligations.AppCmdResult := by
  refine ⟨standardFrame (by decide) fun P hP p arg => ?_, fun arg s hb => exec_eq_handler rfl hb⟩
  obtain ⟨-, -, -, -, -, -, h, -⟩ := hP.decodeFrame_standard p arg
  exact h

/-- Settles O13: CMD24's handler after the dispatch; its next phase is the data phase's first. -/
theorem writeBlockResult : Obligations.WriteBlockResult := by
  refine ⟨standardFrame (by decide) fun P hP p arg => ?_, fun arg s hb => exec_eq_handler rfl hb⟩
  obtain ⟨-, -, -, -, -, h, -⟩ := hP.decodeFrame_standard p arg
  exact h

/-- Settles O12: the three ends of CMD17's handler, at the state after the dispatch. -/
theorem readSingleBlockResult : Obligations.ReadSingleBlockResult := by
  refine ⟨standardFrame (by decide) fun P hP p arg => ?_, rfl, fun arg s hb t ht => ?_⟩
  · obtain ⟨-, -, -, -, h, -⟩ := hP.decodeFrame_standard p arg
    exact h
  have hexec : exec (.cmd17ReadSingleBlock arg) s = .next t.readBlock := ht ▸ exec_eq_handler rfl hb
  rw [hexec]
  obtain ⟨hr, h⟩ | ⟨hr, hd, h⟩ | ⟨hr, hd, h⟩ := t.readBlock_cases
  all_goals
    subst ht
    rw [h]
  · exact congrArg _ (if_pos hr).symm
  · exact congrArg _ ((if_neg (Nat.not_le.2 hr)).trans (if_pos hd)).symm
  · rw [State.sectorData_bytes]
    exact congrArg _ ((if_neg (Nat.not_le.2 hr)).trans (if_neg (Bool.eq_false_iff.1 hd))).symm

/-- Settles O16: without CMD55 the standard tier answers, and it has no command there. -/
theorem illegalIndexResult : Obligations.IllegalIndexResult := by
  refine ⟨by decide, fun n arg s hn hb => ⟨fun crc => ?_, exec_eq_handler rfl hb⟩⟩
  rw [decode_frameBytes, decodeFrame_illegal hn (by simp)]

/-- Settles O22: CMD0's handler after the dispatch leaves what reset() leaves, but for what is named. -/
theorem goIdleIsResetThenIdle : Obligations.GoIdleIsResetThenIdle :=
  fun _ _ hb => exec_eq_handler rfl hb

/-! ## The application commands -/

/-- Settles O14: the five share one handler after the dispatch. -/
theorem unimplementedAppCommandsResult : Obligations.UnimplementedAppCommandsResult := by
  refine ⟨⟨appFrame (by decide) fun P hP arg => ?_, appFrame (by decide) fun P hP arg => ?_,
    appFrame (by decide) fun P hP arg => ?_, appFrame (by decide) fun P hP arg => ?_,
    appFrame (by decide) fun P hP arg => ?_⟩, rfl, ?_⟩
  case refine_6 =>
    rintro arg s hb q x rfl rfl
    exact ⟨exec_eq_handler rfl hb, exec_eq_handler rfl hb, exec_eq_handler rfl hb, exec_eq_handler rfl hb,
      exec_eq_handler rfl hb⟩
  all_goals
    obtain ⟨h13, h22, h23, -, h42, h51⟩ := hP.decodeFrame_app arg
    assumption

/-- Settles O15: ACMD41's handler after the dispatch, on both sides of its condition. -/
theorem sendOpCondResult : Obligations.SendOpCondResult := by
  refine ⟨appFrame (by decide) fun P hP arg => ?_, rfl, ?_⟩
  · obtain ⟨-, -, -, h, -⟩ := hP.decodeFrame_app arg
    exact h
  rintro arg s hb q rfl
  refine (exec_eq_handler rfl hb).trans (congrArg _ ?_)
  rw [handler_acmd41]
  by_cases hc : s.cmd8Seen = true ∧ (argval arg).getLsbD s.params.hcsBit = true
  · rw [if_pos hc]
    exact congrArg State.respondStatus (if_pos hc)
  · rw [if_neg hc]
    exact congrArg State.respondStatus (if_neg hc)

/-! ## The data frame and the unbound card -/

/-- Settles O18: the three ends of the write completion, at the state with the payload latched. -/
theorem dataFrameResult : Obligations.DataFrameResult := by
  intro payload s hb t ht
  have hexec : exec (.dataFrame payload) s = .next t.completeWrite := ht ▸ exec_dataFrame hb payload
  rw [hexec]
  obtain ⟨hr, h⟩ | ⟨hr, hd, h⟩ | ⟨hr, hd, h⟩ := t.completeWrite_cases
  all_goals
    subst ht
    rw [h]
  · exact congrArg _ (if_pos hr).symm
  · exact congrArg _ ((if_neg (Nat.not_le.2 hr)).trans (if_pos hd)).symm
  · exact congrArg _ ((if_neg (Nat.not_le.2 hr)).trans (if_neg (Bool.eq_false_iff.1 hd))).symm

/-- Settles O19: an unbound card loses whole instructions and single bytes. -/
theorem unboundCardIgnoresWrites : Obligations.UnboundCardIgnoresWrites := by
  refine fun s hb => ⟨exec_unbound hb, fun b d rest hi => ?_⟩
  rw [step_of_input hi, perform_write, State.writeByte_unbound (s := s.accept d rest) hb]
  rfl

/-! ## Frames -/

/-- Settles O20: a command writes none of the fields named, and neither does a data frame but for the cache and the
payload buffer. -/
theorem instructionFrame : Obligations.InstructionFrame := by
  intro i s t h
  by_cases hi : i.isFrame = true
  · have ht := exec_isFrame_frame hi h
    refine ⟨by rw [ht]; simp, fun _ => ⟨by rw [ht], by rw [ht], by rw [ht], fun a => by rw [ht]; rfl⟩,
      fun hni => ?_, ?_⟩
    · obtain hb | hb := Bool.eq_false_or_eq_true s.bound
      · rw [exec_eq_handler hi hb] at h
        cases h
        exact handler_cmd8Seen hni _
      · rw [exec_unbound hb] at h
        cases h
        rfl
    · rintro p rfl
      cases hi
  · cases i with
    | invalidByte b => cases h; simp
    | dataFrame p =>
      have ht := exec_dataFrame_frame h
      exact ⟨by rw [ht]; simp, fun hne => absurd rfl (hne p), fun _ => by rw [ht], fun _ _ => by rw [ht]; simp⟩
    | _ => exact absurd rfl hi

end Sys2Proof.Proofs
end

section
/-! PROOFS. What a write can change: the queue, the flags and the registers (30_encoding.md R119, 10_state.md R25, R34,
R44). -/

namespace Sys2Proof.Machine
open Sys2Proof.Claims

/-! ## The response of an instruction (R119) -/

theorem State.readBlock_isResponse (t : State) : IsResponse t.readBlock t.readBlock.responseQueue := by
  unfold IsResponse
  obtain ⟨-, h⟩ | ⟨-, -, h⟩ | ⟨-, -, h⟩ := t.readBlock_cases
  · rw [h]
    exact .inl rfl
  · rw [h]
    iterate 6 right
    exact .inl rfl
  · rw [h]
    iterate 5 right
    exact .inl ⟨_, rfl⟩

theorem State.completeWrite_isResponse (t : State) : IsResponse t.completeWrite t.completeWrite.responseQueue := by
  unfold IsResponse
  obtain ⟨-, h⟩ | ⟨-, -, h⟩ | ⟨-, -, h⟩ := t.completeWrite_cases
  · rw [h]
    exact .inl rfl
  · rw [h]
    iterate 8 right
    rfl
  · rw [h]
    iterate 7 right
    exact .inl rfl

/-- Every handler ends in a listed response. -/
theorem handler_isResponse {i : Instr} (hi : i.isFrame = true) (t : State) :
    IsResponse (handler i t) (handler i t).responseQueue := by
  cases i with
  | cmd17ReadSingleBlock _ => exact t.readBlock_isResponse
  | cmd8SendIfCond _ => exact .inr (.inl rfl)
  | cmd58ReadOcr _ => exact .inr (.inr (.inl rfl))
  | cmd9SendCsd _ => exact .inr (.inr (.inr (.inl rfl)))
  | cmd10SendCid _ => exact .inr (.inr (.inr (.inr (.inl rfl))))
  | invalidByte _ | dataFrame _ => cases hi
  | _ => exact .inl rfl

/-- An instruction leaves the queue alone or ends in a listed response. -/
theorem exec_isResponse {i : Instr} {s t : State} (h : exec i s = .next t) :
    t.responseQueue = s.responseQueue ∨ IsResponse t t.responseQueue := by
  obtain hb | hb := Bool.eq_false_or_eq_true s.bound
  · by_cases hi : i.isFrame = true
    · rw [exec_eq_handler hi hb] at h
      cases h
      exact .inr (handler_isResponse hi _)
    · cases i with
      | invalidByte b => cases h; exact .inl rfl
      | dataFrame p =>
        rw [exec_dataFrame hb] at h
        cases h
        exact .inr (State.completeWrite_isResponse _)
      | _ => exact absurd rfl hi
  · rw [exec_unbound hb] at h
    cases h
    exact .inl rfl

/-! ## What a write changes -/

/-- Everything a write can do at a bound card (41_parser.md R150): the last byte of a frame or of a data frame runs an
instruction, and every other byte is discarded, begins or goes on with a payload, or goes on with a frame. -/
theorem State.writeBound_inversion {s t : State} {b : Byte} (h : s.writeBound b = .next t) :
    (s.phase = .awaitingCrc ∧ exec (decodeFrame s.params s.cmd55Seen s.currentCommand s.argument) s = .next t) ∨
    (s.phase = .awaitingDataCrc2 ∧ exec (.dataFrame s.writePayload) s = .next t) ∨
    (s.phase = .awaitingCommand ∧ t = s) ∨
    (s.phase = .awaitingDataToken ∧ t = s.receiveToken b) ∨
    (s.phase = .awaitingData ∧ t = s.receivePayload b) ∨
    (s.phase = .awaitingDataCrc1 ∧ t = s.toPhase .awaitingDataCrc2) ∨
    (s.phase.isData = false ∧ s.phase ≠ .awaitingCrc ∧
      ∃ p n a, p.isData = false ∧ t = { s with phase := p, currentCommand := n, argument := a }) := by
  cases hp : s.phase with
  | awaitingCommand =>
    obtain hc | hc := Bool.eq_false_or_eq_true (isCommandByte b)
    · rw [State.writeBound_commandByte hp hc] at h
      cases h
      iterate 6 right
      exact ⟨rfl, by simp, _, _, _, rfl, rfl⟩
    · rw [State.writeBound_invalidByte hp hc] at h
      cases h
      exact .inr (.inr (.inl ⟨rfl, rfl⟩))
  | awaitingArg0 | awaitingArg1 | awaitingArg2 | awaitingArg3 =>
    simp only [State.writeBound, hp] at h
    cases h
    iterate 6 right
    exact ⟨rfl, by simp, _, _, _, rfl, rfl⟩
  | awaitingCrc => exact .inl ⟨rfl, State.writeBound_of_awaitingCrc hp b ▸ h⟩
  | awaitingDataToken =>
    rw [State.writeBound_of_awaitingDataToken hp] at h
    cases h
    exact .inr (.inr (.inr (.inl ⟨rfl, rfl⟩)))
  | awaitingData =>
    rw [State.writeBound_of_awaitingData hp] at h
    cases h
    exact .inr (.inr (.inr (.inr (.inl ⟨rfl, rfl⟩))))
  | awaitingDataCrc1 =>
    rw [State.writeBound_of_awaitingDataCrc1 hp] at h
    cases h
    exact .inr (.inr (.inr (.inr (.inr (.inl ⟨rfl, rfl⟩)))))
  | awaitingDataCrc2 => exact .inr (.inl ⟨rfl, State.writeBound_of_awaitingDataCrc2 hp b ▸ h⟩)

/-- The token or a discarded byte writes the phase and the payload counter at most (45_block_transfer.md R226). -/
theorem State.receiveToken_frame (s : State) (b : Byte) :
    s.receiveToken b =
      { s with phase := (s.receiveToken b).phase, payloadCount := (s.receiveToken b).payloadCount } := by
  unfold State.receiveToken
  split <;> rfl

/-- A write at a bound card runs a command, completes a data frame, or writes the phase, the command's registers and the
payload buffer, and nothing else. -/
theorem State.writeBound_cases {s t : State} {b : Byte} (h : s.writeBound b = .next t) :
    (s.phase = .awaitingCrc ∧ exec (decodeFrame s.params s.cmd55Seen s.currentCommand s.argument) s = .next t) ∨
    (s.phase = .awaitingDataCrc2 ∧ exec (.dataFrame s.writePayload) s = .next t) ∨
    (s.phase ≠ .awaitingCrc ∧ t = { s with
      phase := t.phase
      currentCommand := t.currentCommand
      argument := t.argument
      writePayload := t.writePayload
      payloadCount := t.payloadCount }) := by
  obtain h | h | ⟨hp, rfl⟩ | ⟨hp, rfl⟩ | ⟨hp, rfl⟩ | ⟨hp, rfl⟩ |
      ⟨-, hp, _, _, _, -, rfl⟩ := State.writeBound_inversion h
  · exact .inl h
  · exact .inr (.inl h)
  · exact .inr (.inr ⟨by simp [hp], rfl⟩)
  · refine .inr (.inr ⟨by simp [hp], ?_⟩)
    rw [State.receiveToken_frame]
  · exact .inr (.inr ⟨by simp [hp], rfl⟩)
  · exact .inr (.inr ⟨by simp [hp], rfl⟩)
  · exact .inr (.inr ⟨hp, rfl⟩)

/-- Every write at a bound card completes. -/
theorem State.writeBound_next (s : State) (b : Byte) : ∃ t, s.writeBound b = .next t := by
  obtain ⟨t, ht, -⟩ := s.writeBound_keeps_reply b
  exact ⟨t, ht⟩

/-! ## The session flag of CMD55 (R34) -/

/-- After the dispatch has cleared it, only CMD55 sets `cmd55_seen`. -/
theorem handler_cmd55Seen {t : State} (ht : t.cmd55Seen = false) (i : Instr) :
    (handler i t).cmd55Seen = true ↔ i = .cmd55AppCmd i.arg := by
  cases i with
  | cmd17ReadSingleBlock _ =>
    obtain ⟨-, h⟩ | ⟨-, -, h⟩ | ⟨-, -, h⟩ := t.readBlock_cases
    all_goals simp [handler, h, ht]
  | acmd41SdSendOpCond _ =>
    simp only [handler]
    split <;> simp [ht]
  | _ => simp [handler, ht, Instr.arg]

/-- A frame's last byte leaves the flag set exactly when the frame is CMD55. -/
theorem exec_decodeFrame_cmd55Seen {s t : State} (hb : s.bound = true)
    (h : exec (decodeFrame s.params s.cmd55Seen s.currentCommand s.argument) s = .next t) :
    t.cmd55Seen = true ↔
      decodeFrame s.params s.cmd55Seen s.currentCommand s.argument = .cmd55AppCmd s.argument := by
  obtain ⟨hi, -, harg, -⟩ := decodeFrame_carries s.params s.cmd55Seen s.currentCommand s.argument
  generalize decodeFrame s.params s.cmd55Seen s.currentCommand s.argument = i at h hi harg ⊢
  rw [exec_eq_handler hi hb] at h
  cases h
  rw [handler_cmd55Seen rfl, harg]

/-! ## IN_IDLE (R25) -/

theorem errorMasks_bit0 : ∀ m ∈ errorMasks, m[0] = false := by decide

theorem Params.Legal.r1Illegal_bit0 {P : Params} (hP : P.Legal) : P.r1Illegal[0] = false := by
  obtain ⟨-, hI, -, -⟩ := hP
  exact errorMasks_bit0 _ hI

theorem Params.Legal.r1Param_bit0 {P : Params} (hP : P.Legal) : P.r1Param[0] = false := by
  obtain ⟨-, -, hM, -⟩ := hP
  exact errorMasks_bit0 _ hM

/-- CMD0 sets IN_IDLE, ACMD41 clears it under its condition, and no other handler changes it. -/
theorem handler_inIdle {t : State} (hP : t.params.Legal) {i : Instr} (ha : t.argument = i.arg) :
    (handler i t).status.getLsbD 0 =
      if i = .cmd0GoIdleState i.arg then true
      else if i = .acmd41SdSendOpCond i.arg ∧ t.cmd8Seen = true ∧ (argval i.arg).getLsbD t.params.hcsBit = true then
        false
      else t.status.getLsbD 0 := by
  have hI := Params.Legal.r1Illegal_bit0 hP
  have hM := Params.Legal.r1Param_bit0 hP
  cases i with
  | cmd0GoIdleState _ => simp [handler, Instr.arg, Config.inIdle]
  | acmd41SdSendOpCond arg =>
    have ha : t.argument = arg := ha
    simp only [handler_acmd41, ha, Instr.arg, reduceCtorEq, if_false, true_and]
    split
    · simp [Config.inIdle]
    · rfl
  | cmd17ReadSingleBlock _ =>
    obtain ⟨-, h⟩ | ⟨-, -, h⟩ | ⟨-, -, h⟩ := t.readBlock_cases
    all_goals simp [handler, h, hM]
  | _ => simp [handler, hI]

/-- The transient clear keeps IN_IDLE. -/
theorem cleared_bit0 {s : State} (hP : s.params.Legal) : (cleared s).getLsbD 0 = s.status.getLsbD 0 := by
  simp [cleared, Params.Legal.r1Illegal_bit0 hP, Params.Legal.r1Param_bit0 hP]

theorem State.completeWrite_bit0 {s : State} (hP : s.params.Legal) :
    s.completeWrite.status.getLsbD 0 = s.status.getLsbD 0 := by
  obtain ⟨-, h⟩ | ⟨-, -, h⟩ | ⟨-, -, h⟩ := s.completeWrite_cases
  · simp [h, Params.Legal.r1Param_bit0 hP]
  · rw [h]
  · rw [h]

/-- What a frame's last byte does to IN_IDLE at a bound card. -/
theorem exec_decodeFrame_bit0 {s t : State} (hP : s.params.Legal) (hb : s.bound = true)
    (h : exec (decodeFrame s.params s.cmd55Seen s.currentCommand s.argument) s = .next t) :
    t.status.getLsbD 0 =
      if decodeFrame s.params s.cmd55Seen s.currentCommand s.argument = .cmd0GoIdleState s.argument then true
      else if decodeFrame s.params s.cmd55Seen s.currentCommand s.argument = .acmd41SdSendOpCond s.argument ∧
          s.cmd8Seen = true ∧ (argval s.argument).getLsbD s.params.hcsBit = true then false
      else s.status.getLsbD 0 := by
  obtain ⟨hi, -, harg, -⟩ := decodeFrame_carries s.params s.cmd55Seen s.currentCommand s.argument
  generalize decodeFrame s.params s.cmd55Seen s.currentCommand s.argument = i at h hi harg ⊢
  rw [exec_eq_handler hi hb] at h
  cases h
  rw [handler_inIdle (t := dispatchBase i s) hP rfl, harg, ← cleared_bit0 hP]
  rfl

/-- A write changes IN_IDLE only where a frame's last byte does. -/
theorem State.writeBound_bit0 {s t : State} {b : Byte} (hP : s.params.Legal) (hb : s.bound = true)
    (h : s.writeBound b = .next t) (hp : s.phase ≠ .awaitingCrc) : t.status.getLsbD 0 = s.status.getLsbD 0 := by
  obtain ⟨hcrc, -⟩ | ⟨-, ht⟩ | ⟨-, ht⟩ := State.writeBound_cases h
  · exact absurd hcrc hp
  · rw [exec_dataFrame hb] at ht
    cases ht
    exact State.completeWrite_bit0 hP
  · rw [ht]

/-! ## The parameters, the binding and the capacity fields -/

/-- Two states of one card, bound to the same medium or to none. -/
def SameCard (s t : State) : Prop :=
  t.params = s.params ∧ t.bound = s.bound ∧ t.totalSectors = s.totalSectors ∧ t.capacityField = s.capacityField

theorem exec_sameCard {i : Instr} {s t : State} (h : exec i s = .next t) : SameCard s t := by
  by_cases hi : i.isFrame = true
  · rw [exec_isFrame_frame hi h]
    exact ⟨rfl, rfl, rfl, rfl⟩
  · cases i with
    | invalidByte b => cases h; exact ⟨rfl, rfl, rfl, rfl⟩
    | dataFrame p =>
      rw [exec_dataFrame_frame h]
      exact ⟨rfl, rfl, rfl, rfl⟩
    | _ => exact absurd rfl hi

theorem State.writeByte_sameCard {s t : State} {b : Byte} (h : s.writeByte b = .next t) : SameCard s t := by
  obtain hb | hb := Bool.eq_false_or_eq_true s.bound
  · rw [State.writeByte_bound hb] at h
    obtain ⟨-, ht⟩ | ⟨-, ht⟩ | ⟨-, ht⟩ := State.writeBound_cases h
    · exact exec_sameCard ht
    · exact exec_sameCard ht
    · rw [ht]
      exact ⟨rfl, rfl, rfl, rfl⟩
  · rw [State.writeByte_unbound hb] at h
    cases h
    exact ⟨rfl, rfl, rfl, rfl⟩

theorem State.readByte_sameCard (s : State) : SameCard s s.readByte := by
  unfold State.readByte
  split <;> exact ⟨rfl, rfl, rfl, rfl⟩

theorem State.commit_sameCard (s : State) : SameCard s s.commit := by
  unfold State.commit State.storeFlush
  split
  · split <;> exact ⟨rfl, rfl, rfl, rfl⟩
  · exact ⟨rfl, rfl, rfl, rfl⟩

/-- Every call but bind and unbind keeps the binding and the capacity fields (R35, R36). -/
theorem perform_sameCard {c : HostCall} {s t : State} (h : perform c s = .next t) (hbind : ∀ path, c ≠ .bind path)
    (hunbind : c ≠ .unbind) : SameCard s t := by
  cases c with
  | write b => exact State.writeByte_sameCard h
  | read => cases h; exact s.readByte_sameCard
  | reset => cases h; exact ⟨rfl, rfl, rfl, rfl⟩
  | bind path => exact absurd rfl (hbind path)
  | unbind => exact absurd rfl hunbind
  | commit => cases h; exact s.commit_sameCard
  | isDirty => cases h; exact ⟨rfl, rfl, rfl, rfl⟩

theorem State.unbind_params (s : State) : s.unbind.params = s.params := by
  unfold State.unbind
  split <;> rfl

theorem State.bindMedium_params (s : State) (path : String) : (s.bindMedium path).params = s.params := by
  have hopen : (if s.bound then s.unbind else s).params = s.params := by
    split
    · exact s.unbind_params
    · rfl
  obtain ⟨-, h⟩ | ⟨-, -, -, h⟩ | ⟨-, -, h⟩ := s.bindMedium_cases path
  all_goals
    rw [h]
    exact hopen

/-- No call changes the parameters (log entry 37). -/
theorem perform_params {c : HostCall} {s t : State} (h : perform c s = .next t) : t.params = s.params := by
  by_cases hbind : ∃ path, c = .bind path
  · obtain ⟨path, rfl⟩ := hbind
    cases h
    exact s.bindMedium_params path
  · by_cases hunbind : c = .unbind
    · subst hunbind
      cases h
      exact s.unbind_params
    · obtain ⟨hparams, -⟩ := perform_sameCard h (fun path hc => hbind ⟨path, hc⟩) hunbind
      exact hparams

/-! ## The data phase (R44) -/

/-- No byte of the data phase changes the command's registers. -/
theorem State.writeBound_keeps_command {s t : State} {b : Byte} (h : s.writeBound b = .next t)
    (hp : s.phase.isData = true) : t.currentCommand = s.currentCommand ∧ t.argument = s.argument := by
  obtain ⟨hcrc, -⟩ | ⟨-, ht⟩ | ⟨-, rfl⟩ | ⟨-, rfl⟩ | ⟨-, rfl⟩ | ⟨-, rfl⟩ | ⟨hframe, -⟩ := State.writeBound_inversion h
  · simp [hcrc, Phase.isData] at hp
  · rw [exec_dataFrame_frame ht]
    exact ⟨rfl, rfl⟩
  · exact ⟨rfl, rfl⟩
  · rw [State.receiveToken_frame]
    exact ⟨rfl, rfl⟩
  · exact ⟨rfl, rfl⟩
  · exact ⟨rfl, rfl⟩
  · simp [hframe] at hp

/-! ## Two cards that differ in IN_IDLE alone (R188) -/

/-- `t` differs from `s` at most in bit 0 of the status and of the first byte of the queue. -/
def IdleTwin (s t : State) : Prop :=
  ∃ st q, t = { s with status := st, responseQueue := q } ∧ q.tail = s.responseQueue.tail ∧
    q.head?.map (· &&& 0xFE) = s.responseQueue.head?.map (· &&& 0xFE) ∧ st &&& 0xFE = s.status &&& 0xFE

/-- Two states alike but for IN_IDLE stay so when each responds its own status and the same bytes behind it. -/
theorem idleTwin_respond {s : State} {st : Byte} (hst : st &&& 0xFE = s.status &&& 0xFE) (q : List Byte) :
    IdleTwin (s.respond (s.status :: q)) ({ s with status := st }.respond (st :: q)) :=
  ⟨st, st :: q, rfl, rfl, by simpa using hst, hst⟩

/-- The same when both respond the same bytes. -/
theorem idleTwin_respond_same {s : State} {st : Byte} (hst : st &&& 0xFE = s.status &&& 0xFE) (q : List Byte) :
    IdleTwin (s.respond q) ({ s with status := st }.respond q) :=
  ⟨st, q, rfl, rfl, rfl, hst⟩

theorem or_and_congr {a b m : Byte} (h : a &&& m = b &&& m) (x : Byte) : (a ||| x) &&& m = (b ||| x) &&& m := by
  rw [BitVec.and_or_distrib_right, BitVec.and_or_distrib_right, h]

theorem flip_bit0 (b : Byte) : (b ^^^ 0x01) &&& 0xFE = b &&& 0xFE := by
  revert b
  decide

theorem and_and_congr {a b m : Byte} (h : a &&& m = b &&& m) (x : Byte) : (a &&& x) &&& m = (b &&& x) &&& m := by
  rw [BitVec.and_assoc, BitVec.and_assoc, BitVec.and_comm x, ← BitVec.and_assoc, ← BitVec.and_assoc, h]

section
variable {t : State} {st : Byte}

theorem State.readBlock_idleTwin (hst : st &&& 0xFE = t.status &&& 0xFE) :
    IdleTwin t.readBlock { t with status := st }.readBlock := by
  have hrange : { t with status := st }.inRange = t.inRange := rfl
  have hread (k : Nat) : { t with status := st }.storeRead k = t.storeRead k := rfl
  simp only [State.readBlock, hrange, hread]
  split
  · split
    · exact idleTwin_respond hst _
    · exact idleTwin_respond hst _
  · exact idleTwin_respond (s := t.setParameter) (or_and_congr hst _) []

theorem State.completeWrite_idleTwin (hst : st &&& 0xFE = t.status &&& 0xFE) :
    IdleTwin t.completeWrite { t with status := st }.completeWrite := by
  have hrange : { t with status := st }.inRange = t.inRange := rfl
  have hwrite (k : Nat) (d : Sector) :
      { t with status := st }.storeWrite k d = { t.storeWrite k d with status := st } := by
    unfold State.storeWrite
    split <;> rfl
  have hstatus (k : Nat) (d : Sector) : (t.storeWrite k d).status = t.status := by
    unfold State.storeWrite
    split <;> rfl
  simp only [State.completeWrite, hrange, hwrite]
  split
  · exact idleTwin_respond_same (by rw [hstatus, hst]) _
  · exact idleTwin_respond (s := t.setParameter) (or_and_congr hst _) []

/-- No handler reads IN_IDLE but to respond it. -/
theorem handler_idleTwin {i : Instr} (hi : i.isFrame = true) (hst : st &&& 0xFE = t.status &&& 0xFE) :
    IdleTwin (handler i t) (handler i { t with status := st }) := by
  cases i with
  | cmd0GoIdleState _ => exact idleTwin_respond_same (s := t.setIdleOnly.setCmd8Seen false) rfl _
  | cmd8SendIfCond _ => exact idleTwin_respond (s := t.setCmd8Seen true) hst _
  | cmd17ReadSingleBlock _ => exact State.readBlock_idleTwin hst
  | cmd55AppCmd _ => exact idleTwin_respond (s := t.setCmd55Seen true) hst _
  | cmd9SendCsd _ | cmd10SendCid _ | cmd24WriteBlock _ | cmd58ReadOcr _ => exact idleTwin_respond hst _
  | acmd41SdSendOpCond _ =>
    simp only [handler_acmd41]
    split
    · exact idleTwin_respond (s := t.leaveIdle) (and_and_congr hst _) []
    · exact idleTwin_respond hst []
  | invalidByte _ | dataFrame _ => cases hi
  | _ => exact idleTwin_respond (s := t.setIllegal) (or_and_congr hst _) []

end

theorem exec_idleTwin {s : State} {st : Byte} (hst : st &&& 0xFE = s.status &&& 0xFE) (i : Instr) :
    ∃ t t', exec i s = .next t ∧ exec i { s with status := st } = .next t' ∧ IdleTwin t t' := by
  obtain hb | hb := Bool.eq_false_or_eq_true s.bound
  · by_cases hi : i.isFrame = true
    · exact ⟨_, _, exec_eq_handler hi hb, exec_eq_handler hi hb,
        handler_idleTwin (t := dispatchBase i s) hi (and_and_congr hst _)⟩
    · cases i with
      | invalidByte b => exact ⟨s, _, rfl, rfl, st, _, rfl, rfl, rfl, hst⟩
      | dataFrame p =>
        exact ⟨_, _, exec_dataFrame hb p, exec_dataFrame (s := { s with status := st }) hb p,
          State.completeWrite_idleTwin (t := (s.latchPayload p).toPhase .awaitingCommand) hst⟩
      | _ => exact absurd rfl hi
  · exact ⟨s, _, exec_unbound hb i, exec_unbound (s := { s with status := st }) hb i, st, _, rfl, rfl, rfl, hst⟩

end Sys2Proof.Machine

namespace Sys2Proof.Proofs
open Sys2Proof.Machine Sys2Proof.Claims

/-- Settles O31: an unbound card keeps its queue, and at a bound one only an instruction writes it. -/
theorem everyResponseIsListed : Obligations.EveryResponseIsListed := by
  intro s t b d rest hi h
  rw [step_of_input hi, perform_write] at h
  obtain hb | hb := Bool.eq_false_or_eq_true s.bound
  · rw [State.writeByte_bound (s := s.accept d rest) hb] at h
    obtain ⟨-, ht⟩ | ⟨-, ht⟩ | ⟨-, ht⟩ := State.writeBound_cases h
    · exact exec_isResponse (s := s.accept d rest) ht
    · exact exec_isResponse (s := s.accept d rest) ht
    · rw [ht]
      exact .inl rfl
  · rw [State.writeByte_unbound (s := s.accept d rest) hb] at h
    cases h
    exact .inl rfl

/-- Settles O33: a dispatch clears the flag before the handler runs, and neither a data frame nor any other byte writes
it. -/
theorem prefixLastsOneDispatch : Obligations.PrefixLastsOneDispatch := by
  intro s b d rest hb hi
  obtain ⟨t, ht⟩ := (s.accept d rest).writeBound_next b
  refine ⟨t, (step_write_bound hi hb).trans ht, fun hp => ?_, fun hp => ?_⟩
  · rw [State.writeBound_of_awaitingCrc (s := s.accept d rest) hp] at ht
    exact exec_decodeFrame_cmd55Seen (s := s.accept d rest) hb ht
  · obtain ⟨hcrc, -⟩ | ⟨-, h⟩ | ⟨-, h⟩ := State.writeBound_cases ht
    · exact absurd hcrc hp
    · rw [exec_dataFrame_frame h]
      rfl
    · rw [h]
      rfl

/-- Settles O34: a legal state in the data phase holds CMD24's index, and no byte there touches the registers. -/
theorem dataPhaseKeepsTheCommand : Obligations.DataPhaseKeepsTheCommand := by
  intro s b d rest hinv hp hi
  obtain ⟨hcommand, -⟩ := hinv.dataPhase
  refine ⟨(hcommand hp).1, ?_⟩
  have hb : s.bound = true := by
    refine (Bool.eq_false_or_eq_true s.bound).resolve_right fun hb => ?_
    rw [hinv.unbound.phase_eq hb] at hp
    cases hp
  obtain ⟨t, ht⟩ := (s.accept d rest).writeBound_next b
  exact ⟨t, (step_write_bound hi hb).trans ht, State.writeBound_keeps_command (s := s.accept d rest) ht hp⟩

/-- Settles O36: the two states are twins, and stay so. -/
theorem noCommandReadsInIdle : Obligations.NoCommandReadsInIdle := by
  intro i s
  obtain ⟨t, t', h, h', st, q, rfl, htail, hhead, hstatus⟩ := exec_idleTwin (flip_bit0 s.status) i
  exact ⟨t, _, h, h', rfl, htail, hhead, hstatus⟩

/-- Settles O42: every other call keeps the card, and an idle step does nothing. -/
theorem onlyBindAndUnbindChangeTheBinding : Obligations.OnlyBindAndUnbindChangeTheBinding := by
  intro s t h
  cases hi : s.inputs with
  | nil =>
    rw [step_of_no_inputs hi] at h
    cases h
    exact .inl ⟨rfl, rfl, rfl⟩
  | cons inp rest =>
    obtain ⟨c, d⟩ := inp
    rw [step_of_input hi] at h
    by_cases hc : (∃ path, c = .bind path) ∨ c = .unbind
    · exact .inr ⟨c, d, rest, rfl, hc⟩
    · rw [not_or, not_exists] at hc
      obtain ⟨-, hcard⟩ := perform_sameCard h hc.1 hc.2
      exact .inl hcard

/-- Settles O51: call by call. -/
theorem parametersNeverChange : Obligations.ParametersNeverChange := by
  intro s t h
  cases hi : s.inputs with
  | nil =>
    rw [step_of_no_inputs hi] at h
    cases h
    rfl
  | cons inp rest =>
    rw [step_of_input hi] at h
    exact perform_params (s := s.accept inp.draw rest) h

end Sys2Proof.Proofs
end

section
/-! PROOFS. The management calls (46_management.md R250–R261). -/

namespace Sys2Proof.Machine
open Sys2Proof.Claims

/-! ## unbind() -/

/-- A card as unbind and construction leave it (10_state.md R41), the payload buffer holding `p`. -/
def State.unbound (s : State) (p : Sector) : State :=
  { s with
    bound := false
    totalSectors := 0
    capacityField := 0
    medium := []
    cache := []
    phase := .awaitingCommand
    status := 0x00
    responseQueue := []
    cmd8Seen := false
    cmd55Seen := false
    payloadCount := 0
    writePayload := p }

/-- A clean unbound card is what unbind leaves already. -/
theorem UnboundClean.eq_unbound {s : State} (hs : UnboundClean s) (hb : s.bound = false) :
    s = s.unbound s.writePayload := by
  obtain ⟨hphase, hstatus, hqueue, hcount, h8, h55, hcap, htotal, hmedium, hcache⟩ := hs hb
  cases s
  simp_all [State.unbound]

/-- unbind() leaves the same card whether it was bound or clean (R257, D18). -/
theorem UnboundClean.unbind_eq {s : State} (hs : UnboundClean s) : s.unbind = s.unbound s.draw.unspecPayload := by
  obtain hb | hb := Bool.eq_false_or_eq_true s.bound
  · rw [State.unbind, if_pos hb]
    rfl
  · rw [State.unbind, if_neg (Bool.eq_false_iff.1 hb), hs.eq_unbound hb]
    rfl

/-! ## bind() -/

/-- bind() starts from an unbound card: it unbinds a bound one first (R261). -/
theorem UnboundClean.unbind_if_bound_eq {s : State} (hs : UnboundClean s) :
    ∃ p, (if s.bound then s.unbind else s) = s.unbound p := by
  obtain hb | hb := Bool.eq_false_or_eq_true s.bound
  · exact ⟨_, (if_pos hb).trans hs.unbind_eq⟩
  · exact ⟨_, (if_neg (Bool.eq_false_iff.1 hb)).trans (hs.eq_unbound hb)⟩

/-- The draws with which bind() succeeds: the adapter opens the medium, and its geometry passes (R251–R254). -/
def Draw.Binds (d : Draw) : Prop :=
  d.storeError = false ∧ d.geometry.sectorSize = 512 ∧ d.geometry.total % 1024 = 0 ∧ d.geometry.total ≠ 0 ∧
    d.geometry.total / 1024 - 1 < 65375

theorem Geometry.accepted_iff (g : Geometry) :
    g.accepted = true ↔ g.sectorSize = 512 ∧ g.total % 1024 = 0 ∧ g.total ≠ 0 := by
  simp [Geometry.accepted, Config.sectorSize, Config.sectorMultiple, and_assoc]

theorem Draw.binds_iff (d : Draw) :
    d.Binds ↔ d.storeError = false ∧ d.geometry.accepted = true ∧ d.geometry.capacity < Config.capacityLimit := by
  simp only [Draw.Binds, Geometry.accepted_iff, Geometry.capacity, Config.sectorMultiple, Config.capacityLimit,
    and_assoc]

/-- The card bound to the medium of its draw (R255). -/
def State.boundAsDrawn (s : State) : State :=
  { s.unbound s.draw.unspecPayload with
    bound := true
    totalSectors := BitVec.ofNat 32 s.draw.geometry.total
    capacityField := BitVec.ofNat 16 s.draw.geometry.capacity
    medium := Memory.load (512 * s.draw.geometry.total) s.draw.image
    reply := .ok }

/-- bind() leaves the card bound to the medium of its draw, or unbound with an error. -/
theorem UnboundClean.bindMedium_eq {s : State} (hs : UnboundClean s) (path : String) :
    (s.draw.Binds ∧ s.bindMedium path = s.boundAsDrawn) ∨
    (¬s.draw.Binds ∧ ∃ p, s.bindMedium path = (s.unbound p).answer .bindError) := by
  obtain ⟨p, hp⟩ := hs.unbind_if_bound_eq
  rw [Draw.binds_iff]
  obtain ⟨hd, h⟩ | ⟨hd, ha, hc, h⟩ | ⟨hd, hreject, h⟩ := s.bindMedium_cases path
  · exact .inr ⟨by simp [hd], p, by rw [h, hp]⟩
  · refine .inl ⟨⟨hd, ha, hc⟩, ?_⟩
    rw [h, State.openMedium, hp]
    rfl
  · refine .inr ⟨fun hbinds => hreject hbinds.2, p, ?_⟩
    rw [h, State.openMedium, hp]
    rfl

section
variable {d : Draw}

/-- An accepted product fits its register (D14, D15). -/
theorem Draw.Binds.totalSectors_toNat (hd : d.Binds) :
    (BitVec.ofNat 32 d.geometry.total).toNat = d.geometry.total := by
  obtain ⟨-, -, -, -, hlimit⟩ := hd
  rw [BitVec.toNat_ofNat, Nat.mod_eq_of_lt (by omega)]

theorem Draw.Binds.capacityField_toNat (hd : d.Binds) :
    (BitVec.ofNat 16 d.geometry.capacity).toNat = d.geometry.total / 1024 - 1 := by
  obtain ⟨-, -, -, -, hlimit⟩ := hd
  rw [BitVec.toNat_ofNat, Geometry.capacity, Config.sectorMultiple, Nat.mod_eq_of_lt (by omega)]

end

/-! ## commit() -/

theorem State.commit_unbound {s : State} (hb : s.bound = false) : s.commit = s.answer .ok := by
  simp [State.commit, hb]

/-- commit() at a bound card, when the flush fails: entries that reached the medium may leave the cache, and no other
does (R69, log entry 17). -/
theorem State.commit_failed {s : State} (hb : s.bound = true) (hd : s.draw.storeError = true) :
    s.commit = { s with
      medium := Cache.flushInto (s.cache.filter fun e => s.draw.failedFlushReached.contains e.1) s.medium
      cache := s.cache.filter fun e =>
        !s.draw.failedFlushReached.contains e.1 || s.draw.failedFlushKept.contains e.1
      reply := .flushError } := by
  rw [State.commit, if_pos hb, State.storeFlush, if_pos hd, if_pos hd]
  rfl

end Sys2Proof.Machine

namespace Sys2Proof.Proofs
open Sys2Proof.Machine Sys2Proof.Claims

/-- Settles O29: the queue of a clean unbound card is empty. -/
theorem unboundReadIsIdleLine : Obligations.UnboundReadIsIdleLine := by
  intro s d rest hinv hb hi
  obtain ⟨-, -, hqueue, -⟩ := hinv.unbound hb
  rw [step_of_input hi, perform_read, State.readByte_of_queue_nil (s := s.accept d rest) hqueue]
  rfl

/-- Settles O46: commit at an unbound card only answers. -/
theorem unboundCommitIsOk : Obligations.UnboundCommitIsOk := by
  intro s d rest hb hi
  rw [step_of_input hi, perform_commit, State.commit_unbound (s := s.accept d rest) hb]
  rfl

/-- Settles O47: the answer is whether the card is bound and its cache holds an entry. -/
theorem isDirtyReportsTheCache : Obligations.IsDirtyReportsTheCache := by
  intro s d rest hi
  refine ⟨s.bound && s.storeIsDirty, step_of_input hi, ?_⟩
  simp [State.storeIsDirty]

/-- Settles O48: the payload buffer holds what the draw says. -/
theorem resetCallResult : Obligations.ResetCallResult :=
  fun _ d _ hi => ⟨d.unspecPayload, step_of_input hi⟩

/-- Settles O49: the same card is left whether it was bound or not. -/
theorem unbindResult : Obligations.UnbindResult := by
  intro s d rest hinv hi
  have hclean : UnboundClean (s.accept d rest) := hinv.unbound.accept d rest
  refine ⟨d.unspecPayload, ?_⟩
  rw [step_of_input hi, perform_unbind, hclean.unbind_eq]
  rfl

/-- Settles O50: bind leaves the card bound to the medium of its draw, whose bytes are the image's, or unbound. -/
theorem bindOutcome : Obligations.BindOutcome := by
  rintro s path d rest T hinv hi rfl
  have hclean : UnboundClean (s.accept d rest) := hinv.unbound.accept d rest
  have hstep := step_of_input hi
  rw [perform_bind] at hstep
  refine ⟨_, hstep, ?_⟩
  obtain ⟨hbinds, h⟩ | ⟨hbinds, p, h⟩ := hclean.bindMedium_eq path
  all_goals rw [h]
  · refine ⟨⟨rfl, rfl, rfl, rfl, rfl, rfl, rfl⟩, ⟨rfl, rfl, rfl, rfl⟩, (if_pos hbinds).mpr ?_⟩
    refine ⟨rfl, rfl, hbinds.totalSectors_toNat, hbinds.capacityField_toNat, fun a ha => ?_⟩
    exact (Memory.read_load _ _ a).trans (if_pos ha)
  · exact ⟨⟨rfl, rfl, rfl, rfl, rfl, rfl, rfl⟩, ⟨rfl, rfl, rfl, rfl⟩,
      (if_neg hbinds).mpr ⟨rfl, rfl, rfl, rfl, rfl⟩⟩

end Sys2Proof.Proofs
end

section
/-! PROOFS. Every step keeps a legal state (10_state.md section 9). -/

namespace Sys2Proof.Machine
open Sys2Proof.Claims

/-! ## The status register (R27, 60_exceptions.md R289) -/

theorem and_eq_zero_iff_bits {x m : Byte} : x &&& m = 0 ↔ ∀ k, (hk : k < 8) → x[k] = true → m[k] = false := by
  constructor
  · intro h k hk hx
    have hbit : (x &&& m)[k] = false := by simp [h]
    simpa [hx] using hbit
  · intro h
    refine BitVec.eq_of_getElem_eq fun k hk => ?_
    cases hx : x[k] <;> simp [hx, h k hk]

theorem errorMasks_disjoint : ∀ m ∈ errorMasks, ∀ n ∈ errorMasks, m ≠ n → m &&& n = 0 := by decide

theorem Params.Legal.masks_disjoint {P : Params} (hP : P.Legal) : P.r1Illegal &&& P.r1Param = 0 := by
  obtain ⟨-, hI, hM, hne⟩ := hP
  exact errorMasks_disjoint _ hI _ hM hne

/-- No error bit is set. -/
def ErrorFree (s : State) : Prop := s.status &&& (s.params.r1Illegal ||| s.params.r1Param) = 0

/-- The transient clear leaves a legal status without an error bit. -/
theorem StatusLegal.cleared {s : State} (hs : StatusLegal s) :
    StatusLegal s.clearTransient ∧ ErrorFree s.clearTransient := by
  obtain ⟨hbits, -⟩ := hs
  simp only [StatusLegal, ErrorFree, State.clearTransient_status, State.clearTransient_params, ne_eq,
    and_eq_zero_iff_bits, BitVec.getElem_and, BitVec.getElem_or, BitVec.getElem_not] at *
  grind

section
variable {s : State}

theorem StatusLegal.setIllegal (hs : StatusLegal s) (he : ErrorFree s) (hP : s.params.Legal) :
    StatusLegal s.setIllegal := by
  have hdisjoint := Params.Legal.masks_disjoint hP
  obtain ⟨hbits, -⟩ := hs
  simp only [StatusLegal, ErrorFree, State.setIllegal_status, State.setIllegal_params, ne_eq,
    and_eq_zero_iff_bits, BitVec.getElem_or, BitVec.getElem_not] at *
  grind

theorem StatusLegal.setParameter (hs : StatusLegal s) (he : ErrorFree s) (hP : s.params.Legal) :
    StatusLegal s.setParameter := by
  have hdisjoint := Params.Legal.masks_disjoint hP
  obtain ⟨hbits, -⟩ := hs
  simp only [StatusLegal, ErrorFree, State.setParameter_status, State.setParameter_params, ne_eq,
    and_eq_zero_iff_bits, BitVec.getElem_or, BitVec.getElem_not] at *
  grind

theorem StatusLegal.leaveIdle (hs : StatusLegal s) : StatusLegal s.leaveIdle := by
  simp only [StatusLegal, State.leaveIdle_status, State.leaveIdle_params, ne_eq,
    and_eq_zero_iff_bits, BitVec.getElem_and, BitVec.getElem_or, BitVec.getElem_not] at *
  grind

theorem statusLegal_setIdleOnly (hP : s.params.Legal) : StatusLegal s.setIdleOnly := by
  have hidle : ∀ m ∈ errorMasks, (0x01 : Byte) &&& m = 0 := by decide
  obtain ⟨-, hI, -, -⟩ := hP
  refine ⟨?_, fun h => h.1 (hidle _ hI)⟩
  rw [State.setIdleOnly_status, Config.inIdle, and_eq_zero_iff_bits]
  simp only [BitVec.getElem_or, BitVec.getElem_not]
  grind

theorem statusLegal_of_zero (h : s.status = 0x00) : StatusLegal s := by
  simp [StatusLegal, h]

end

/-- A handler keeps a legal status legal: it sets at most one error bit, and none was set before. -/
theorem handler_statusLegal {t : State} (hs : StatusLegal t) (he : ErrorFree t) (hP : t.params.Legal) (i : Instr) :
    StatusLegal (handler i t) := by
  cases i with
  | cmd0GoIdleState _ => exact statusLegal_setIdleOnly hP
  | cmd17ReadSingleBlock _ =>
    rw [handler]
    obtain ⟨-, h⟩ | ⟨-, -, h⟩ | ⟨-, -, h⟩ := t.readBlock_cases
    · exact h ▸ hs.setParameter he hP
    · exact h ▸ hs
    · exact h ▸ hs
  | acmd41SdSendOpCond _ =>
    rw [handler_acmd41]
    split
    · exact hs.leaveIdle
    · exact hs
  | acmd13SdStatus _ | acmd22SendNumWrBlocks _ | acmd23SetWrBlkEraseCount _ | acmd42SetClrCardDetect _
  | acmd51SendScr _ | illegal _ _ => exact hs.setIllegal he hP
  | _ => exact hs

/-! ## The queue (R31) -/

theorem csdRegister_length (t : Bytes 16) (c : BitVec 16) : (csdRegister t c).length = 16 := by
  simp [csdRegister, t.size]

/-- Every listed response fits the queue. -/
theorem IsResponse.length_le {t : State} {q : List Byte} (h : IsResponse t q) : q.length ≤ 516 := by
  rcases h with rfl | rfl | rfl | rfl | rfl | ⟨d, rfl⟩ | rfl | rfl | rfl
  all_goals simp [csdRegister_length, Bytes.size]

/-! ## The data phase (R43, R44) -/

theorem dataPhaseConsistent_of_not_isData {s : State} (h : s.phase.isData = false) : DataPhaseConsistent s := by
  refine ⟨fun hp => absurd (hp.symm.trans h) (by simp), fun hp => ?_, fun hp => ?_⟩
  · rw [hp] at h
    cases h
  · obtain hp | hp := hp <;> rw [hp] at h <;> cases h

theorem unboundClean_of_bound {s : State} (hb : s.bound = true) : UnboundClean s :=
  fun h => absurd (hb.symm.trans h) (by simp)

/-! ## What keeps a legal state: calls that touch no invariant, and resets -/

theorem CardInv.accept {s : State} (hs : CardInv s) (d : Draw) (rest : List Input) : CardInv (s.accept d rest) :=
  ⟨hs.params, hs.status, hs.buffers, hs.capacity, hs.unbound, hs.dataPhase, hs.store⟩

theorem CardInv.answer {s : State} (hs : CardInv s) (r : Reply) : CardInv (s.answer r) :=
  ⟨hs.params, hs.status, hs.buffers, hs.capacity, hs.unbound, hs.dataPhase, hs.store⟩

theorem cardInv_unbound {s : State} (hP : s.params.Legal) (p : Sector) : CardInv (s.unbound p) where
  params := hP
  status := statusLegal_of_zero rfl
  buffers := ⟨Nat.zero_le _, Nat.zero_le _⟩
  capacity := nofun
  unbound := fun _ => ⟨rfl, rfl, rfl, rfl, rfl, rfl, rfl, rfl, rfl, rfl⟩
  dataPhase := dataPhaseConsistent_of_not_isData rfl
  store := by simp [StoreCanonical, State.unbound, Memory.wf, Cache.wf]

theorem CardInv.resetBus {s : State} (hs : CardInv s) : CardInv s.resetBus where
  params := hs.params
  status := statusLegal_of_zero rfl
  buffers := ⟨Nat.zero_le _, Nat.zero_le _⟩
  capacity := hs.capacity
  unbound := fun hb => by
    obtain ⟨-, -, -, -, -, -, hfields⟩ := hs.unbound hb
    exact ⟨rfl, rfl, rfl, rfl, rfl, rfl, hfields⟩
  dataPhase := dataPhaseConsistent_of_not_isData rfl
  store := hs.store

theorem cardInv_boundAsDrawn {s : State} (hP : s.params.Legal) (hd : s.draw.Binds) : CardInv s.boundAsDrawn where
  params := hP
  status := statusLegal_of_zero rfl
  buffers := ⟨Nat.zero_le _, Nat.zero_le _⟩
  capacity := fun _ => by
    have htotal : s.boundAsDrawn.totalSectors.toNat = s.draw.geometry.total := hd.totalSectors_toNat
    have hcapacity : s.boundAsDrawn.capacityField.toNat = s.draw.geometry.total / 1024 - 1 := hd.capacityField_toNat
    obtain ⟨-, -, hmultiple, hpos, hlimit⟩ := hd
    rw [htotal, hcapacity]
    exact ⟨hmultiple, by omega, rfl, hlimit⟩
  unbound := nofun
  dataPhase := dataPhaseConsistent_of_not_isData rfl
  store := by
    have htotal : s.boundAsDrawn.totalSectors.toNat = s.draw.geometry.total := hd.totalSectors_toNat
    refine ⟨Memory.load_wf _ _, List.Pairwise.nil, fun c hc => ?_, nofun⟩
    rw [htotal]
    exact Memory.mem_load hc

theorem CardInv.bindMedium {s : State} (hs : CardInv s) (path : String) : CardInv (s.bindMedium path) := by
  obtain ⟨hbinds, h⟩ | ⟨-, p, h⟩ := hs.unbound.bindMedium_eq path
  · exact h ▸ cardInv_boundAsDrawn hs.params hbinds
  · exact h ▸ (cardInv_unbound hs.params p).answer _

theorem CardInv.unbind {s : State} (hs : CardInv s) : CardInv s.unbind :=
  hs.unbound.unbind_eq ▸ cardInv_unbound hs.params _

theorem CardInv.readByte {s : State} (hs : CardInv s) : CardInv s.readByte := by
  cases hq : s.responseQueue with
  | nil =>
    rw [State.readByte_of_queue_nil hq]
    exact hs.answer _
  | cons b q =>
    rw [State.readByte_of_queue_cons hq]
    have hb : s.bound = true := (Bool.eq_false_or_eq_true s.bound).resolve_right fun hb => by
      obtain ⟨-, -, hnil, -⟩ := hs.unbound hb
      simp [hq] at hnil
    obtain ⟨hlength, hcount⟩ := hs.buffers
    rw [hq, List.length_cons] at hlength
    exact ⟨hs.params, hs.status, ⟨Nat.le_of_succ_le hlength, hcount⟩, hs.capacity,
      unboundClean_of_bound hb, hs.dataPhase, hs.store⟩

/-! ## The store -/

/-- A legal bound state stays one when the store changes and stays canonical. -/
theorem CardInv.withStore {s : State} (hs : CardInv s) (hb : s.bound = true) {m : Memory} {c : Cache}
    (hstore : StoreCanonical { s with medium := m, cache := c }) : CardInv { s with medium := m, cache := c } :=
  ⟨hs.params, hs.status, hs.buffers, hs.capacity, unboundClean_of_bound hb, hs.dataPhase, hstore⟩

theorem CardInv.commit {s : State} (hs : CardInv s) : CardInv s.commit := by
  obtain hb | hb := Bool.eq_false_or_eq_true s.bound
  · obtain ⟨hmedium, hcache, hmem, hentry⟩ := hs.store
    obtain hd | hd := Bool.eq_false_or_eq_true s.draw.storeError
    · rw [State.commit_failed hb hd]
      exact (hs.withStore hb ⟨Cache.flushInto_wf _ hmedium, Cache.filter_wf hcache _,
        Cache.mem_flushInto (fun e he => hentry e (List.mem_of_mem_filter he)) hmem,
        fun e he => hentry e (List.mem_of_mem_filter he)⟩).answer _
    · rw [State.commit_ok hb hd]
      exact (hs.withStore hb ⟨Cache.flushInto_wf _ hmedium, List.Pairwise.nil, Cache.mem_flushInto hentry hmem,
        nofun⟩).answer _
  · rw [State.commit_unbound hb]
    exact hs.answer _

/-! ## The bytes that complete no instruction -/

/-- A byte of a frame writes the registers and a phase outside the data phase. -/
theorem CardInv.frameByte {s : State} (hs : CardInv s) (hb : s.bound = true) {p : Phase} (hp : p.isData = false)
    (n : BitVec 6) (a : Argument) : CardInv { s with phase := p, currentCommand := n, argument := a } :=
  ⟨hs.params, hs.status, hs.buffers, hs.capacity, unboundClean_of_bound hb,
    dataPhaseConsistent_of_not_isData hp, hs.store⟩

/-- A byte of the data phase writes the payload buffer and its counter, which stands where the next phase says. -/
theorem CardInv.dataByte {s : State} (hs : CardInv s) (hb : s.bound = true) (hdata : s.phase.isData = true) {p : Phase}
    {c : Nat} (w : Sector) (hc : c ≤ 512) (hlt : p = .awaitingData → c < 512)
    (heq : p = .awaitingDataCrc1 ∨ p = .awaitingDataCrc2 → c = 512) :
    CardInv { s with phase := p, writePayload := w, payloadCount := c } := by
  obtain ⟨hcommand, -⟩ := hs.dataPhase
  obtain ⟨hqueue, -⟩ := hs.buffers
  exact ⟨hs.params, hs.status, ⟨hqueue, hc⟩, hs.capacity, unboundClean_of_bound hb,
    ⟨fun _ => hcommand hdata, hlt, heq⟩, hs.store⟩

theorem CardInv.receiveToken {s : State} (hs : CardInv s) (hb : s.bound = true) (hp : s.phase = .awaitingDataToken)
    (b : Byte) : CardInv (s.receiveToken b) := by
  unfold State.receiveToken
  split
  · exact hs.dataByte hb (by rw [hp]; rfl) s.writePayload (Nat.zero_le _) (by simp) (by simp)
  · exact hs

theorem CardInv.receivePayload {s : State} (hs : CardInv s) (hb : s.bound = true) (hp : s.phase = .awaitingData)
    (b : Byte) : CardInv (s.receivePayload b) := by
  obtain ⟨-, hcount, -⟩ := hs.dataPhase
  have hcount := hcount hp
  refine hs.dataByte hb (by rw [hp]; rfl) _ (by omega) (fun h => ?_) (fun h => ?_)
  · split at h
    · cases h
    · omega
  · split at h
    · assumption
    · simp [hp] at h

theorem CardInv.receiveDataCrc1 {s : State} (hs : CardInv s) (hb : s.bound = true) (hp : s.phase = .awaitingDataCrc1) :
    CardInv (s.toPhase .awaitingDataCrc2) := by
  obtain ⟨-, -, hcount⟩ := hs.dataPhase
  have hcount := hcount (.inl hp)
  exact hs.dataByte hb (by rw [hp]; rfl) s.writePayload hcount.le (by simp) (fun _ => hcount)

/-! ## Whole instructions -/

/-- A command keeps a legal state, wherever it is run. -/
theorem CardInv.handler {s : State} (hs : CardInv s) (hb : s.bound = true) {i : Instr} (hi : i.isFrame = true) :
    CardInv (handler i (dispatchBase i s)) := by
  obtain ⟨hstatus, herror⟩ := hs.status.cleared
  have hqueue := IsResponse.length_le (handler_isResponse hi (dispatchBase i s))
  have hlegal : StatusLegal (Machine.handler i (dispatchBase i s)) :=
    handler_statusLegal (t := dispatchBase i s) hstatus herror hs.params i
  have hcmd24 : (dispatchBase i s).phase.isData = true → ∃ a, i = .cmd24WriteBlock a := by
    intro hp
    cases i with
    | cmd24WriteBlock a => exact ⟨a, rfl⟩
    | invalidByte _ | dataFrame _ => cases hi
    | _ => cases hp
  by_cases hdata : ∃ a, i = .cmd24WriteBlock a
  · obtain ⟨a, rfl⟩ := hdata
    exact ⟨hs.params, hlegal, ⟨hqueue, hs.buffers.2⟩, hs.capacity, unboundClean_of_bound hb,
      ⟨fun _ => ⟨rfl, herror⟩, nofun, nofun⟩, hs.store⟩
  · have hphase := mt hcmd24 hdata
    rw [handler_frame] at hlegal ⊢
    exact ⟨hs.params, hlegal, ⟨hqueue, hs.buffers.2⟩, hs.capacity, unboundClean_of_bound hb,
      dataPhaseConsistent_of_not_isData (by simpa using hphase), hs.store⟩

/-- The write completion keeps a legal state when no error bit is set: it may set one. -/
theorem CardInv.completeWrite {s : State} (hs : CardInv s) (hb : s.bound = true) (he : ErrorFree s)
    (hp : s.phase.isData = false) : CardInv s.completeWrite := by
  have hqueue := IsResponse.length_le s.completeWrite_isResponse
  obtain ⟨hmedium, hcache, hmem, hentry⟩ := hs.store
  have hput (hr : sectorIndex s.argument < s.totalSectors.toNat) :
      Cache.wf (s.cache.put (sectorIndex s.argument) s.writePayload) ∧
        ∀ e ∈ s.cache.put (sectorIndex s.argument) s.writePayload, e.1 < s.totalSectors.toNat := by
    refine ⟨Cache.put_wf hcache _ _, fun e he => ?_⟩
    obtain rfl | he := Cache.mem_put he
    · exact hr
    · exact hentry e he
  obtain ⟨-, h⟩ | ⟨hr, -, h⟩ | ⟨hr, -, h⟩ := s.completeWrite_cases
  all_goals rw [h] at hqueue ⊢
  · exact ⟨hs.params, hs.status.setParameter he hs.params, ⟨hqueue, hs.buffers.2⟩, hs.capacity,
      unboundClean_of_bound hb, dataPhaseConsistent_of_not_isData hp, hs.store⟩
  · refine ⟨hs.params, hs.status, ⟨hqueue, hs.buffers.2⟩, hs.capacity, unboundClean_of_bound hb,
      dataPhaseConsistent_of_not_isData hp, ?_⟩
    split
    · exact ⟨hmedium, (hput hr).1, hmem, (hput hr).2⟩
    · exact hs.store
  · exact ⟨hs.params, hs.status, ⟨hqueue, hs.buffers.2⟩, hs.capacity, unboundClean_of_bound hb,
      dataPhaseConsistent_of_not_isData hp, hmedium, (hput hr).1, hmem, (hput hr).2⟩

/-- An instruction keeps a legal state; a data frame, when no error bit is set. -/
theorem CardInv.exec {s t : State} (hs : CardInv s) {i : Instr} (h : exec i s = .next t)
    (he : ∀ p, i = .dataFrame p → ErrorFree s) : CardInv t := by
  obtain hb | hb := Bool.eq_false_or_eq_true s.bound
  · by_cases hi : i.isFrame = true
    · rw [exec_eq_handler hi hb] at h
      cases h
      exact hs.handler hb hi
    · cases i with
      | invalidByte b => cases h; exact hs
      | dataFrame p =>
        rw [exec_dataFrame hb] at h
        cases h
        have hlatched : CardInv ((s.latchPayload p).toPhase .awaitingCommand) :=
          ⟨hs.params, hs.status, ⟨hs.buffers.1, le_rfl⟩, hs.capacity, unboundClean_of_bound hb,
            dataPhaseConsistent_of_not_isData rfl, hs.store⟩
        exact hlatched.completeWrite hb (he p rfl) rfl
      | _ => exact absurd rfl hi
  · rw [exec_unbound hb] at h
    cases h
    exact hs

/-! ## Every call -/

theorem CardInv.writeBound {s t : State} (hs : CardInv s) (hb : s.bound = true) {b : Byte}
    (h : s.writeBound b = .next t) : CardInv t := by
  obtain ⟨-, h⟩ | ⟨hp, h⟩ | ⟨-, rfl⟩ | ⟨hp, rfl⟩ | ⟨hp, rfl⟩ | ⟨hp, rfl⟩ | ⟨-, -, p, n, a, hp, rfl⟩ :=
    State.writeBound_inversion h
  · obtain ⟨hframe, -⟩ := decodeFrame_carries s.params s.cmd55Seen s.currentCommand s.argument
    refine hs.exec h fun p hdata => ?_
    rw [hdata] at hframe
    cases hframe
  · obtain ⟨hdata, -⟩ := hs.dataPhase
    obtain ⟨-, herror⟩ := hdata (by rw [hp]; rfl)
    exact hs.exec h fun _ _ => herror
  · exact hs
  · exact hs.receiveToken hb hp b
  · exact hs.receivePayload hb hp b
  · exact hs.receiveDataCrc1 hb hp
  · exact hs.frameByte hb hp n a

theorem CardInv.perform {s t : State} (hs : CardInv s) {c : HostCall} (h : perform c s = .next t) : CardInv t := by
  cases c with
  | write b =>
    rw [perform_write] at h
    obtain hb | hb := Bool.eq_false_or_eq_true s.bound
    · exact hs.writeBound hb (State.writeByte_bound hb b ▸ h)
    · rw [State.writeByte_unbound hb] at h
      cases h
      exact hs
  | read => cases h; exact hs.readByte
  | reset => cases h; exact hs.resetBus
  | bind path => cases h; exact hs.bindMedium path
  | unbind => cases h; exact hs.unbind
  | commit => cases h; exact hs.commit
  | isDirty => cases h; exact hs.answer _

/-! ## IN_IDLE after the calls that are no writes (R25) -/

@[simp] theorem State.readByte_status (s : State) : s.readByte.status = s.status := by
  unfold State.readByte
  split <;> rfl

@[simp] theorem State.commit_status (s : State) : s.commit.status = s.status := by
  unfold State.commit State.storeFlush
  split
  · split <;> rfl
  · rfl

@[simp] theorem State.unbind_status (s : State) : s.unbind.status = 0x00 := rfl

theorem UnboundClean.bindMedium_status {s : State} (hs : UnboundClean s) (path : String) :
    (s.bindMedium path).status = 0x00 := by
  obtain ⟨-, h⟩ | ⟨-, p, h⟩ := hs.bindMedium_eq path
  · rw [h]
    rfl
  · rw [h]
    rfl

end Sys2Proof.Machine

namespace Sys2Proof.Proofs
open Sys2Proof.Machine

/-- Settles O39: the state after construction is a card as unbind leaves it. -/
theorem powerOnIsLegal : Obligations.PowerOnIsLegal :=
  ⟨cardInv_unbound (s := State.reset) (by decide) (Sector.fill 0), rfl, rfl⟩

/-- Settles O40: taking a call touches no part of the invariant, and each call keeps it. -/
theorem everyStepKeepsCardInv : Obligations.EveryStepKeepsCardInv := by
  intro s t hs h
  cases hi : s.inputs with
  | nil =>
    rw [step_of_no_inputs hi] at h
    cases h
    exact hs
  | cons inp rest =>
    rw [step_of_input hi] at h
    exact (hs.accept inp.draw rest).perform h

/-- Settles O32: call by call; of the writes, only a frame's last byte at a bound card changes the bit. -/
theorem whatChangesInIdle : Obligations.WhatChangesInIdle := by
  rintro s c d rest i hinv hi rfl
  have hstep := step_of_input hi
  have hP := hinv.params
  cases c with
  | write b =>
    rw [perform_write] at hstep
    obtain hb | hb := Bool.eq_false_or_eq_true s.bound
    · obtain ⟨t, ht⟩ := (s.accept d rest).writeBound_next b
      refine ⟨t, (step_write_bound hi hb).trans ht, ?_⟩
      by_cases hp : s.phase = .awaitingCrc
      · rw [State.writeBound_of_awaitingCrc (s := s.accept d rest) hp] at ht
        simpa [hb, hp] using exec_decodeFrame_bit0 (s := s.accept d rest) hP hb ht
      · simpa [hp] using
          State.writeBound_bit0 (s := s.accept d rest) hP hb ht hp
    · rw [State.writeByte_unbound (s := s.accept d rest) hb] at hstep
      exact ⟨_, hstep, by simp [hb]⟩
  | read => exact ⟨_, hstep, by rw [State.readByte_status, State.accept_status]⟩
  | reset => exact ⟨_, hstep, by simp⟩
  | bind path =>
    have hclean : UnboundClean (s.accept d rest) := hinv.unbound.accept d rest
    exact ⟨_, hstep, by rw [hclean.bindMedium_status]; rfl⟩
  | unbind => exact ⟨_, hstep, by simp⟩
  | commit => exact ⟨_, hstep, by rw [State.commit_status, State.accept_status]⟩
  | isDirty => exact ⟨_, hstep, rfl⟩

end Sys2Proof.Proofs
end

section
/-! PROOFS. What the store holds after a write and after a failed flush (20_memory.md R64, R68, R69, R79). -/

namespace Sys2Proof.Machine
open Sys2Proof.Claims

/-! ## The sector space -/

/-- A sector put into the cache is what its bytes read as, and every other byte reads as before (R64, R68). -/
theorem byteAt_put {s t : State} (hcache : s.cache.wf) {i : Nat} {d : Sector} (hc : t.cache = s.cache.put i d)
    (hm : t.medium = s.medium) (a : Nat) :
    t.byteAt a = if a / 512 = i then d.byte (a % 512) else s.byteAt a := by
  rw [State.byteAt, hc, Cache.find_put hcache, hm]
  by_cases hi : i = a / 512
  · rw [if_pos hi, if_pos hi.symm]
  · rw [if_neg hi, if_neg (Ne.symm hi)]
    rfl

theorem byteAt_congr {s t : State} (hc : t.cache = s.cache) (hm : t.medium = s.medium) (a : Nat) :
    t.byteAt a = s.byteAt a := by
  rw [State.byteAt, State.byteAt, hc, hm]

/-- A sector put into the cache is read back whole (R67). -/
theorem sectorData_put {s t : State} (hcache : s.cache.wf) {i : Nat} {d : Sector} (hc : t.cache = s.cache.put i d) :
    t.sectorData i = d := by
  rw [State.sectorData, hc, Cache.find_put hcache, if_pos rfl]

/-- The bytes after the write completion: the acknowledged write stores, the failed one may, and the range error does
not (R230–R232). -/
theorem State.byteAt_completeWrite {s : State} (hcache : s.cache.wf) (a : Nat) :
    s.completeWrite.byteAt a =
      if a / 512 = sectorIndex s.argument ∧ sectorIndex s.argument < s.totalSectors.toNat ∧
          (s.draw.storeError = false ∨ s.draw.failedWriteLands = true)
      then s.writePayload.byte (a % 512) else s.byteAt a := by
  have hmedium : s.completeWrite.medium = s.medium := by rw [State.completeWrite_frame]
  obtain ⟨hr, h⟩ | ⟨hr, hd, h⟩ | ⟨hr, hd, h⟩ := s.completeWrite_cases
  · have hkept : s.completeWrite.cache = s.cache := by rw [h, State.rejectRange_cache]
    rw [byteAt_congr hkept hmedium, if_neg fun hstored => by omega]
  · by_cases hl : s.draw.failedWriteLands = true
    · have hput : s.completeWrite.cache = s.cache.put (sectorIndex s.argument) s.writePayload := by rw [h, if_pos hl]
      rw [byteAt_put hcache hput hmedium]
      simp only [hr, hl, or_true, and_true]
    · have hkept : s.completeWrite.cache = s.cache := by rw [h, if_neg hl]
      rw [byteAt_congr hkept hmedium, if_neg]
      simp [hd, hl]
  · have hput : s.completeWrite.cache = s.cache.put (sectorIndex s.argument) s.writePayload := by rw [h]
    rw [byteAt_put hcache hput hmedium]
    simp only [hr, hd, true_or, and_true]

/-- A dropped entry has reached the medium, and a kept one is read before the medium (R69, log entry 17). -/
theorem byteAt_failedFlush {s t : State} (hs : StoreCanonical s) {reached kept : List Nat}
    (hm : t.medium = Cache.flushInto (s.cache.filter fun e => reached.contains e.1) s.medium)
    (hc : t.cache = s.cache.filter fun e => !reached.contains e.1 || kept.contains e.1) (a : Nat) :
    t.byteAt a = s.byteAt a := by
  obtain ⟨hmedium, hcache, -, -⟩ := hs
  have hfind : t.cache.find (a / 512) =
      if !reached.contains (a / 512) || kept.contains (a / 512) then s.cache.find (a / 512) else none := by
    rw [hc, Cache.find_filter s.cache (fun k => !reached.contains k || kept.contains k)]
  rw [State.byteAt, State.byteAt, hfind, hm, Cache.read_flushInto (Cache.filter_wf hcache _) hmedium,
    Cache.find_filter s.cache (fun k => reached.contains k)]
  cases reached.contains (a / 512) <;> cases kept.contains (a / 512) <;> cases s.cache.find (a / 512) <;> rfl

/-! ## Block transfers in range, when the store answers -/

theorem State.completeWrite_ok {s : State} (hr : sectorIndex s.argument < s.totalSectors.toNat)
    (hd : s.draw.storeError = false) :
    s.completeWrite = { s with
      cache := s.cache.put (sectorIndex s.argument) s.writePayload
      responseQueue := writeAcceptedResponse } := by
  obtain ⟨hr', -⟩ | ⟨-, hd', -⟩ | ⟨-, -, h⟩ := s.completeWrite_cases
  · omega
  · simp [hd] at hd'
  · exact h

theorem State.readBlock_ok {s : State} (hr : sectorIndex s.argument < s.totalSectors.toNat)
    (hd : s.draw.storeError = false) :
    s.readBlock = s.respond (dataBlock s.status (s.sectorData (sectorIndex s.argument)).bytes) := by
  obtain ⟨hr', -⟩ | ⟨-, hd', -⟩ | ⟨-, -, h⟩ := s.readBlock_cases
  · omega
  · simp [hd] at hd'
  · exact h

end Sys2Proof.Machine

namespace Sys2Proof.Proofs
open Sys2Proof.Machine Sys2Proof.Claims

/-- Settles O21: the write completion, at the state with the payload latched. -/
theorem dataFrameStoresOneSector : Obligations.DataFrameStoresOneSector := by
  intro payload s hinv hb
  obtain ⟨-, hcache, -, -⟩ := hinv.store
  exact ⟨_, exec_dataFrame hb payload,
    State.byteAt_completeWrite (s := (s.latchPayload payload).toPhase .awaitingCommand) hcache⟩

/-- Settles O43: the acknowledged write puts the payload into the cache, where CMD17 finds it. -/
theorem writtenSectorReadsBack : Obligations.WrittenSectorReadsBack := by
  intro payload s hinv hb hd hr
  obtain ⟨-, hcache, -, -⟩ := hinv.store
  have hwrite := exec_dataFrame hb payload
  rw [State.completeWrite_ok (s := (s.latchPayload payload).toPhase .awaitingCommand) hr hd] at hwrite
  refine ⟨_, _, hwrite, Cache.put_ne_nil _ _ _, exec_eq_handler rfl hb, ?_⟩
  rw [handler, State.readBlock_ok]
  · rw [sectorData_put hcache rfl]
    rfl
  · exact hr
  · exact hd

/-- Settles O45: the failed flush moves bytes between the cache and the medium alone. -/
theorem failedCommitLosesNoByte : Obligations.FailedCommitLosesNoByte := by
  intro s d rest hinv hb hd hi
  have hcommit := State.commit_failed (s := s.accept d rest) hb hd
  refine ⟨_, step_of_input hi, ?_, fun a => ?_⟩
  · rw [hcommit]
    rfl
  · rw [hcommit]
    exact byteAt_failedFlush hinv.store rfl rfl a

end Sys2Proof.Proofs
end

section
/-! PROOFS. Whole instructions from single bytes (41_parser.md R150, 45_block_transfer.md R226–R229). -/

namespace Sys2Proof.Machine
open Sys2Proof.Claims

/-! ## Runs -/

/-- A run of the machine, at the model's own state type. -/
def runSteps (k : Nat) (s : State) : Host.Outcome State Fault Refusal := Sys2Proof.core.run k s

theorem runSteps_succ (k : Nat) {s t : State} (h : step s = .next t) : runSteps (k + 1) s = runSteps k t := run_succ k h

theorem runSteps_one (s : State) : runSteps 1 s = step s := by
  obtain ⟨-, t, ht, -⟩ := Proofs.noErrorCrossesTheBoundary s
  exact (runSteps_succ 0 ht).trans ht.symm

/-- A write at a bound card, and the run after it. -/
theorem runSteps_write {s t : State} {b : Byte} {d : Draw} {rest : List Input} (hi : s.inputs = ⟨.write b, d⟩ :: rest)
    (hb : s.bound = true) (h : (s.accept d rest).writeBound b = .next t) {k : Nat} :
    runSteps (k + 1) s = runSteps k t :=
  runSteps_succ k ((step_write_bound hi hb).trans h)

/-- A run of calls that do nothing takes them, and keeps the last one's draw. -/
theorem runSteps_ignored {front rest : List Input} (hne : front ≠ []) {s : State} (hi : s.inputs = front ++ rest)
    (hignored : ∀ inp ∈ front, ∀ d r, perform inp.call (s.accept d r) = .next (s.accept d r)) (k : Nat) :
    runSteps (front.length + k) s = runSteps k (s.accept (front.getLast hne).draw rest) := by
  induction front generalizing s with
  | nil => exact absurd rfl hne
  | cons inp front ih =>
    rw [List.forall_mem_cons] at hignored
    have hstep : step s = .next (s.accept inp.draw (front ++ rest)) :=
      (step_of_input (c := inp.call) hi).trans (hignored.1 _ _)
    rw [List.length_cons, Nat.add_right_comm, runSteps_succ _ hstep]
    cases front with
    | nil => simp
    | cons inp' front => exact ih (by simp) rfl hignored.2

theorem mem_writes {front : List Input} {bs : List Byte} (hcalls : front.map Input.call = bs.map HostCall.write)
    {inp : Input} (hinp : inp ∈ front) : ∃ b ∈ bs, inp.call = .write b := by
  have hmem : inp.call ∈ bs.map HostCall.write := hcalls ▸ List.mem_map_of_mem hinp
  obtain ⟨b, hb, hcall⟩ := List.mem_map.1 hmem
  exact ⟨b, hb, hcall.symm⟩

/-! ## A command frame -/

/-- The card inside a command frame, with what of it has been taken (R151, R153–R156). -/
def State.inFrame (s : State) (p : Phase) (n : BitVec 6) (a : Argument) : State :=
  { s with phase := p, currentCommand := n, argument := a }

section
variable {s : State} (hb : s.bound = true) {b : Byte} {d d' : Draw} {rest : List Input} {n : BitVec 6} {a : Argument}
  {k : Nat}
include hb

theorem runSteps_commandByte (hi : s.inputs = ⟨.write b, d⟩ :: rest) (hp : s.phase = .awaitingCommand)
    (hc : isCommandByte b = true) :
    runSteps (k + 1) s = runSteps k ((s.accept d rest).inFrame .awaitingArg0 (commandIndex b) s.argument) :=
  runSteps_write hi hb (State.writeBound_commandByte (s := s.accept d rest) hp hc)

theorem runSteps_arg0 : runSteps (k + 1) ((s.accept d' (⟨.write b, d⟩ :: rest)).inFrame .awaitingArg0 n a) =
    runSteps k ((s.accept d rest).inFrame .awaitingArg1 n { a with a0 := b }) :=
  runSteps_write (s := (s.accept d' _).inFrame .awaitingArg0 n a) rfl hb
    (State.writeBound_of_awaitingArg0 (s := (s.accept d rest).inFrame .awaitingArg0 n a) rfl b)

theorem runSteps_arg1 : runSteps (k + 1) ((s.accept d' (⟨.write b, d⟩ :: rest)).inFrame .awaitingArg1 n a) =
    runSteps k ((s.accept d rest).inFrame .awaitingArg2 n { a with a1 := b }) :=
  runSteps_write (s := (s.accept d' _).inFrame .awaitingArg1 n a) rfl hb
    (State.writeBound_of_awaitingArg1 (s := (s.accept d rest).inFrame .awaitingArg1 n a) rfl b)

theorem runSteps_arg2 : runSteps (k + 1) ((s.accept d' (⟨.write b, d⟩ :: rest)).inFrame .awaitingArg2 n a) =
    runSteps k ((s.accept d rest).inFrame .awaitingArg3 n { a with a2 := b }) :=
  runSteps_write (s := (s.accept d' _).inFrame .awaitingArg2 n a) rfl hb
    (State.writeBound_of_awaitingArg2 (s := (s.accept d rest).inFrame .awaitingArg2 n a) rfl b)

theorem runSteps_arg3 : runSteps (k + 1) ((s.accept d' (⟨.write b, d⟩ :: rest)).inFrame .awaitingArg3 n a) =
    runSteps k ((s.accept d rest).inFrame .awaitingCrc n { a with a3 := b }) :=
  runSteps_write (s := (s.accept d' _).inFrame .awaitingArg3 n a) rfl hb
    (State.writeBound_of_awaitingArg3 (s := (s.accept d rest).inFrame .awaitingArg3 n a) rfl b)

/-- The CRC byte runs the command; the dispatch overwrites the registers that the frame's bytes wrote. -/
theorem runSteps_crc : runSteps 1 ((s.accept d' (⟨.write b, d⟩ :: rest)).inFrame .awaitingCrc n a) =
    exec (decodeFrame s.params s.cmd55Seen n a) (s.accept d rest) := by
  obtain ⟨hframe, -⟩ := decodeFrame_carries s.params s.cmd55Seen n a
  have hstep : step ((s.accept d' (⟨.write b, d⟩ :: rest)).inFrame .awaitingCrc n a) =
      exec (decodeFrame s.params s.cmd55Seen n a) ((s.accept d rest).inFrame .awaitingCrc n a) :=
    (step_write_bound (s := (s.accept d' _).inFrame .awaitingCrc n a) rfl hb).trans
      (State.writeBound_of_awaitingCrc (s := (s.accept d rest).inFrame .awaitingCrc n a) rfl b)
  rw [runSteps_one, hstep, exec_eq_handler (s := s.accept d rest) hframe hb,
    exec_eq_handler (s := (s.accept d rest).inFrame .awaitingCrc n a) hframe hb, dispatchBase, dispatchBase,
    phaseAfter_of_isFrame hframe _ (s.accept d rest).phase]
  rfl

end

/-- An unbound card loses a byte in any phase. -/
theorem perform_write_unbound {s : State} (hb : s.bound = false) (b : Byte) (d : Draw) (r : List Input) :
    perform (.write b) (s.accept d r) = .next (s.accept d r) :=
  State.writeByte_unbound (s := s.accept d r) hb b

/-- A run of writes to an unbound card takes them, and does nothing else. -/
theorem runSteps_unbound_writes {front rest : List Input} {bs : List Byte}
    (hcalls : front.map Input.call = bs.map HostCall.write) (hne : front ≠ []) {s : State} (hb : s.bound = false)
    (hi : s.inputs = front ++ rest) :
    runSteps front.length s = .next (s.accept (front.getLast hne).draw rest) := by
  refine runSteps_ignored hne hi (fun inp hinp d r => ?_) 0
  obtain ⟨b, -, hcall⟩ := mem_writes hcalls hinp
  rw [hcall]
  exact perform_write_unbound hb b d r

/-! ## A data frame -/

/-- A byte other than the token is discarded before it. -/
theorem perform_write_discarded {s : State} (hp : s.phase = .awaitingDataToken) {b : Byte} (hb : b ≠ 0xFE) (d : Draw)
    (r : List Input) : perform (.write b) (s.accept d r) = .next (s.accept d r) := by
  have hb : b ≠ Config.dataToken := hb
  rw [perform_write]
  obtain hbound | hbound := Bool.eq_false_or_eq_true s.bound
  · rw [State.writeByte_bound (s := s.accept d r) hbound,
      State.writeBound_of_awaitingDataToken (s := s.accept d r) hp, State.receiveToken, if_neg hb]
  · exact State.writeByte_unbound (s := s.accept d r) hbound b

theorem sector_eq_of_bytes {d e : Sector} (h : d.bytes = e.bytes) : d = e := by
  cases d
  cases e
  cases h
  rfl

/-- The bytes taken so far, once one more is put at the count. -/
theorem take_setByte (w : Sector) {n : Nat} (hn : n < 512) (b : Byte) :
    (w.setByte n b).bytes.take (n + 1) = w.bytes.take n ++ [b] := by
  have hlength := w.size
  simp [Sector.setByte, List.take_add_one, List.take_set_of_le, hlength, hn]

/-- One payload byte written at a bound card, and the run after it. -/
theorem runSteps_payloadByte {s : State} (hb : s.bound = true) (hp : s.phase = .awaitingData) {b : Byte} {d : Draw}
    {rest : List Input} (hi : s.inputs = ⟨.write b, d⟩ :: rest) (k : Nat) :
    runSteps (k + 1) s = runSteps k ((s.accept d rest).receivePayload b) :=
  runSteps_write hi hb (State.writeBound_of_awaitingData (s := s.accept d rest) hp b)

/-- The card after the token: the payload begins (R226). -/
def State.tokenTaken (s : State) : State := { s with payloadCount := 0, phase := .awaitingData }

theorem State.writeBound_token {s : State} (hp : s.phase = .awaitingDataToken) :
    s.writeBound 0xFE = .next s.tokenTaken := by
  rw [State.writeBound_of_awaitingDataToken hp, State.receiveToken, if_pos (by rfl)]
  rfl

/-- The card after the last payload byte: the payload stands in the buffer, counted. -/
def State.payloadTaken (s : State) (w : Sector) : State :=
  { s with phase := .awaitingDataCrc1, writePayload := w, payloadCount := 512 }

/-- The byte that finds the count at 511 is the last (R227). -/
theorem State.receivePayload_last {s : State} (hp : s.phase = .awaitingData) (hlast : s.payloadCount = 511) (b : Byte) :
    s.receivePayload b = s.payloadTaken (s.writePayload.setByte 511 b) := by
  rw [State.receivePayload_of_awaitingData hp, hlast]
  rfl

/-- The rest of a payload, written one byte at a time: the buffer holds what was taken and then these bytes. -/
theorem runSteps_payload {bs : List Byte} {b : Byte} {front rest : List Input}
    (hfront : front.map Input.call = (b :: bs).map HostCall.write) {s : State} (hb : s.bound = true)
    (hp : s.phase = .awaitingData) (hcount : s.payloadCount + (b :: bs).length = 512) {w : Sector}
    (hw : w.bytes = s.writePayload.bytes.take s.payloadCount ++ b :: bs) (hi : s.inputs = front ++ rest) (k : Nat) :
    ∃ d, runSteps ((b :: bs).length + k) s = runSteps k ((s.payloadTaken w).accept d rest) := by
  induction bs generalizing b front s with
  | nil =>
    obtain ⟨⟨c, d⟩, front, rfl, rfl, hnone⟩ := List.map_eq_cons_iff.1 hfront
    obtain rfl := List.map_eq_nil_iff.1 hnone
    have hlast : s.payloadCount = 511 := by simpa using hcount
    rw [hlast] at hw
    have htaken : s.writePayload.setByte 511 b = w := sector_eq_of_bytes <| by
      rw [hw, ← take_setByte _ (by decide), List.take_of_length_le (by rw [Sector.size])]
    refine ⟨d, ?_⟩
    rw [List.length_singleton, Nat.add_comm, runSteps_payloadByte hb hp hi, ← htaken]
    exact congrArg _ (State.receivePayload_last (s := s.accept d rest) hp hlast b)
  | cons b' bs ih =>
    obtain ⟨⟨c, d⟩, front, rfl, rfl, hmore⟩ := List.map_eq_cons_iff.1 hfront
    simp only [List.length_cons] at hcount
    have hroom : s.payloadCount < 511 := by omega
    have hphase := State.receivePayload_phase_of_lt (s := s.accept d (front ++ rest)) (by simp; omega) b
    obtain ⟨d', hrun⟩ := ih (s := (s.accept d (front ++ rest)).receivePayload b) hmore hb
      (hphase.trans ((if_pos hroom).trans hp)) (by simp; omega)
      (by simp [take_setByte s.writePayload (Nat.lt_succ_of_lt hroom), hw]) rfl
    refine ⟨d', ?_⟩
    rw [List.length_cons, Nat.add_right_comm]
    exact (runSteps_payloadByte hb hp hi _).trans hrun

/-- The token, the payload and the first CRC byte, written one at a time at a bound card. -/
theorem runSteps_data {payload : Sector} {crc1 : Byte} {front rest : List Input}
    (hfront : front.map Input.call = (0xFE :: payload.bytes ++ [crc1]).map HostCall.write) {s : State}
    (hb : s.bound = true) (hp : s.phase = .awaitingDataToken) (hi : s.inputs = front ++ rest) (k : Nat) :
    ∃ d, runSteps (k + 514) s =
      runSteps k (((s.payloadTaken payload).toPhase .awaitingDataCrc2).accept d rest) := by
  rw [List.cons_append] at hfront
  obtain ⟨⟨c, d0⟩, front, rfl, rfl, hbytes⟩ := List.map_eq_cons_iff.1 hfront
  rw [List.map_append] at hbytes
  obtain ⟨bytes, last, rfl, hpayload, hlast⟩ := List.map_eq_append_iff.1 hbytes
  obtain ⟨⟨c, d1⟩, more, rfl, rfl, hnone⟩ := List.map_eq_cons_iff.1 hlast
  obtain rfl := List.map_eq_nil_iff.1 hnone
  obtain ⟨b, bs, hbs⟩ := List.exists_cons_of_length_pos (l := payload.bytes) (by simp)
  have hlength : (b :: bs).length = 512 := hbs ▸ payload.size
  obtain ⟨d, hrun⟩ := runSteps_payload (s := (s.accept d0 (bytes ++ ⟨.write crc1, d1⟩ :: rest)).tokenTaken)
    (by rw [hpayload, hbs]) hb rfl (by rw [hlength]; rfl) (w := payload) (by rw [hbs]; rfl) rfl (k + 1)
  have htoken : runSteps ((b :: bs).length + (k + 1) + 1) s = _ :=
    runSteps_write (by simpa using hi) hb (State.writeBound_token hp)
  refine ⟨d1, ?_⟩
  rw [show k + 514 = (b :: bs).length + (k + 1) + 1 by omega, htoken, hrun]
  exact runSteps_write rfl (by exact hb) (State.writeBound_of_awaitingDataCrc1 rfl crc1)

/-- A run of bytes other than the token, in front of more calls, is discarded. -/
theorem runSteps_junk {junk : List Byte} {skipped more : List Input}
    (hskipped : skipped.map Input.call = junk.map HostCall.write) (hj : ∀ b ∈ junk, b ≠ 0xFE) {s : State}
    (hp : s.phase = .awaitingDataToken) (hi : s.inputs = skipped ++ more) (k : Nat) :
    ∃ d r, runSteps (junk.length + k) s = runSteps k { s with inputs := more, draw := d, reply := r } := by
  have hlength : junk.length = skipped.length := by simpa using (congrArg List.length hskipped).symm
  rw [hlength]
  by_cases hne : skipped = []
  · subst hne
    refine ⟨s.draw, s.reply, ?_⟩
    rw [List.nil_append] at hi
    rw [← hi, List.length_nil, Nat.zero_add]
  · refine ⟨_, _, runSteps_ignored hne hi (fun inp hinp d r => ?_) k⟩
    obtain ⟨b, hb, hcall⟩ := mem_writes hskipped hinp
    rw [hcall]
    exact perform_write_discarded hp (hj b hb) d r

/-- The second CRC byte runs the data frame; it overwrites what the frame's bytes wrote. -/
theorem runSteps_secondCrc {s : State} (hb : s.bound = true) {payload : Sector} {b : Byte} {d d' : Draw}
    {rest : List Input} :
    runSteps 1 (((s.payloadTaken payload).toPhase .awaitingDataCrc2).accept d' (⟨.write b, d⟩ :: rest)) =
      exec (.dataFrame payload) (s.accept d rest) := by
  have hstep : step (((s.payloadTaken payload).toPhase .awaitingDataCrc2).accept d' (⟨.write b, d⟩ :: rest)) =
      exec (.dataFrame payload) (((s.payloadTaken payload).toPhase .awaitingDataCrc2).accept d rest) :=
    (step_write_bound (s := ((s.payloadTaken payload).toPhase .awaitingDataCrc2).accept d' _) rfl hb).trans
      (State.writeBound_of_awaitingDataCrc2
      (s := ((s.payloadTaken payload).toPhase .awaitingDataCrc2).accept d rest) rfl b)
  rw [runSteps_one, hstep, exec_dataFrame (s := s.accept d rest) hb,
    exec_dataFrame (s := ((s.payloadTaken payload).toPhase .awaitingDataCrc2).accept d rest) hb]
  rfl

/-- A data frame from its token on, written one byte at a time at a bound card. -/
theorem runSteps_dataFrame {payload : Sector} {crc1 crc2 : Byte} {front rest : List Input}
    (hfront : front.map Input.call = (0xFE :: payload.bytes ++ [crc1]).map HostCall.write) {s : State}
    (hb : s.bound = true) (hp : s.phase = .awaitingDataToken) {d : Draw}
    (hi : s.inputs = front ++ ⟨.write crc2, d⟩ :: rest) :
    runSteps 515 s = exec (.dataFrame payload) (s.accept d rest) := by
  obtain ⟨d', hrun⟩ := runSteps_data hfront hb hp hi 1
  exact hrun.trans (runSteps_secondCrc hb)

end Sys2Proof.Machine

namespace Sys2Proof.Proofs
open Sys2Proof.Machine Sys2Proof.Claims

/-- Settles O23: in each of the three phases the bytes decode to what the phase rule runs. -/
theorem stepRunsTheDecodedInstruction : Obligations.StepRunsTheDecodedInstruction := by
  intro s b d rest i hb hi
  rw [step_write_bound hi hb]
  refine ⟨fun hp hdec => ?_, fun hp hdec => ?_, fun hp ⟨crc1, hdec⟩ => ?_⟩
  · obtain ⟨b', hc, hbs, rfl⟩ | ⟨n, arg, crc, hbs, -⟩ := decode_command_cases hdec
    · cases hbs
      exact State.writeBound_invalidByte (s := s.accept d rest) hp hc
    · simp [encodeFrame] at hbs
  · rw [decode_frameBytes] at hdec
    cases hdec
    exact State.writeBound_of_awaitingCrc (s := s.accept d rest) hp b
  · have hframe := decodeData_frame s.writePayload crc1 b []
    rw [decode, List.cons_append, hframe] at hdec
    cases hdec
    exact State.writeBound_of_awaitingDataCrc2 (s := s.accept d rest) hp b

/-- Settles O35: each byte is discarded, and the last one's draw is the run's. -/
theorem deafUntilTheToken : Obligations.DeafUntilTheToken := by
  intro bs d rest s hbs hp hi hne
  have hignored : ∀ inp ∈ bs.map (fun b => (⟨.write b, d⟩ : Input)), ∀ d' r,
      perform inp.call (s.accept d' r) = .next (s.accept d' r) := by
    intro inp hinp d' r
    obtain ⟨b, hb, rfl⟩ := List.mem_map.1 hinp
    exact perform_write_discarded hp (hbs b hb) d' r
  have hrun := runSteps_ignored (by simpa using hne) hi hignored 0
  simp only [List.length_map, Nat.add_zero, List.getLast_map] at hrun
  exact hrun

/-- Settles O37: the six phase rules in turn; the dispatch overwrites the registers that the first five wrote. -/
theorem frameBytesRunTheInstruction : Obligations.FrameBytesRunTheInstruction := by
  intro s b0 a0 a1 a2 a3 crc d0 d1 d2 d3 d4 d5 rest i hp hi hdec
  obtain ⟨b, -, hbs, -⟩ | ⟨n, ⟨c0, c1, c2, c3⟩, crc', hbs, rfl⟩ := decode_command_cases hdec
  · simp at hbs
  obtain ⟨rfl, rfl, rfl, rfl, rfl, rfl⟩ : b0 = commandByte n ∧ a0 = c0 ∧ a1 = c1 ∧ a2 = c2 ∧ a3 = c3 ∧ crc = crc' := by
    simpa [encodeFrame] using hbs
  show runSteps 6 s = _
  obtain hb | hb := Bool.eq_false_or_eq_true s.bound
  · simp only [List.cons_append, List.nil_append] at hi
    have hframe : runSteps 6 s = exec (decodeFrame s.params s.cmd55Seen n ⟨a0, a1, a2, a3⟩) (s.accept d5 rest) := by
      rw [runSteps_commandByte hb hi hp (isCommandByte_commandByte n), commandIndex_commandByte,
        runSteps_arg0 hb, runSteps_arg1 hb, runSteps_arg2 hb, runSteps_arg3 hb, runSteps_crc hb]
    exact hframe
  · rw [exec_unbound (s := taken s d5 rest) hb]
    exact runSteps_unbound_writes (bs := [commandByte n, a0, a1, a2, a3, crc]) rfl (by simp) hb hi

/-- Settles O38: the junk is discarded, the token and 512 bytes leave the payload in the buffer, and the second CRC byte
runs the data frame; an unbound card loses all of it. -/
theorem dataBytesRunTheDataFrame : Obligations.DataBytesRunTheDataFrame := by
  intro s junk payload crc1 crc2 front rest d hp hj hfront hi
  show runSteps (junk.length + 515) s = _
  obtain hb | hb := Bool.eq_false_or_eq_true s.bound
  · rw [List.append_assoc, List.map_append] at hfront
    obtain ⟨skipped, data, rfl, hskipped, hdata⟩ := List.map_eq_append_iff.1 hfront
    rw [List.append_assoc] at hi
    obtain ⟨d0, r, hjunk⟩ := runSteps_junk hskipped hj hp hi 515
    rw [hjunk]
    exact runSteps_dataFrame (s := { s with inputs := _, draw := d0, reply := r }) hdata hb hp rfl
  · have hlength : front.length = junk.length + 514 := by simpa using congrArg List.length hfront
    have hrun := runSteps_unbound_writes (front := front ++ [⟨.write crc2, d⟩]) (rest := rest)
      (bs := junk ++ 0xFE :: payload.bytes ++ [crc1] ++ [crc2]) (by simp [hfront]) (by simp) hb (by simp [hi])
    rw [exec_unbound (s := taken s d rest) hb]
    rw [List.length_append, hlength, List.getLast_append_singleton] at hrun
    exact hrun

end Sys2Proof.Proofs
end
